-- ==== Sys2Proof/Word.lean ====
section
/-! DEFINITION. The two data widths of the block (spec 00_scope.md R16): the 32-bit word of the GPIO register file and
the 8-bit byte of the sensor buses. All data are unsigned; the spec names no signed operation. -/

namespace Sys2Proof

/-- R16: a *word* is a 32-bit unsigned value; bit 0 is the least significant. -/
abbrev Word := BitVec 32

/-- R16: a *byte* is an 8-bit unsigned value. -/
abbrev Byte := BitVec 8

end Sys2Proof
end

