-- ==== Sys2Proof/Config.lean ====
section
/-! DEFINITION. The implementation parameters of 00_scope.md R9 to R15 as plain data (`Params`), the reference
instantiation CFG_REF of R11, and the FREE VALUES: opaque constants with no body, so that nothing in Lean can say what
they are. A parameter set rides in the state (log entry 1), so every statement about every state is a statement about
every parameter set. -/

namespace Sys2Proof

/-- The two sensors of R1, which take their parameters separately (R12). -/
inductive SensorId where
  | a
  | c
deriving DecidableEq, Repr

/-- R12: the two candidate values of CTRL_WMASK, `0xFF` (all bits stored) and `0x01` (only the enable bit stored). -/
inductive CtrlMask where
  | allBits
  | enableOnly
deriving DecidableEq, Repr, Inhabited

/-- R12: the parameters of one sensor. MEAS_SET is the set of the bytes `measHead :: measTail`, non-empty by its form. -/
structure SensorParams where
  idConst  : Byte
  measHead : Byte
  measTail : List Byte
  ctrlMask : CtrlMask
deriving DecidableEq, Repr

/-- R13: the three fields that the SENS_C command layout reads from a command byte: cmd_start, cmd_is_read, cmd_reg. -/
structure CmdFields where
  start  : Bool
  isRead : Bool
  reg    : Nat
deriving DecidableEq, Repr

/-- The parameters of R15. `pins` lists pins(0), pins(1), …, so N is its length (R9). `irqLine` lists, port by port and
pin by pin, the line of R10; a pin beyond a list has none. `layout` lists the command bytes whose fields differ from the
default layout of R13, so that every command layout is a value of it. -/
structure Params where
  pins        : List Nat
  irqLine     : List (List (Option (Fin 32)))
  /-- R14: W1C_REEVAL. -/
  w1cReeval   : Bool
  /-- R53: REGION_BYTES; no rule depends on it. -/
  regionBytes : Nat
  sensA       : SensorParams
  sensC       : SensorParams
  layout      : List (Byte × CmdFields)
deriving DecidableEq, Repr

/-- R9: N, the number of ports. -/
def Params.nPorts (p : Params) : Nat := p.pins.length

/-- R9: pins(n), the pin capacity of port n. -/
def Params.pinCount (p : Params) (n : Nat) : Nat := p.pins.getD n 0

/-- R10: irq_line(n, i). -/
def Params.irqLineOf (p : Params) (n i : Nat) : Option (Fin 32) := (p.irqLine.getD n []).getD i none

/-- R12: MEAS_SET. -/
def SensorParams.measSet (p : SensorParams) : List Byte := p.measHead :: p.measTail

/-- R12: CTRL_WMASK as a byte. -/
def SensorParams.ctrlWMask (p : SensorParams) : Byte :=
  match p.ctrlMask with
  | .allBits    => 0xFF
  | .enableOnly => 0x01

/-- R12: ID_CONST of each sensor; the source gives no value, so the constant has no body. -/
opaque Config.idConst : SensorId → Byte

/-- R12: one member of each sensor's MEAS_SET, which is non-empty; no value given. -/
opaque Config.measHead : SensorId → Byte

/-- R12: the other members of each sensor's MEAS_SET; no value given. -/
opaque Config.measTail : SensorId → List Byte

/-- R12: the open parameter CTRL_WMASK of each sensor; no value given. -/
opaque Config.ctrlMask : SensorId → CtrlMask

/-- R17 draw(all bytes): the k-th free byte of a sensor. A FREE VALUE (log entry 4). -/
opaque Config.freeByte : SensorId → Nat → Byte

/-- R17 draw(MEAS_SET): which member of MEAS_SET the k-th draw of a sensor takes, counted round the set.
A FREE VALUE (log entry 4). -/
opaque Config.freeIndex : SensorId → Nat → Nat

/-- The parameters of one sensor, all of them open (R12). -/
def SensorParams.symbolic (d : SensorId) : SensorParams :=
  { idConst  := Config.idConst d
    measHead := Config.measHead d
    measTail := Config.measTail d
    ctrlMask := Config.ctrlMask d }

/-- R11: CFG_REF (N = 9, ports PA to PI, the lines of PH0 to PH21 and PI10 to PI19), with the defaults of R13 to R15
for the rest and the open constants of R12 for the sensors. -/
def Params.ref : Params :=
  { pins := [18, 24, 25, 28, 12, 6, 12, 28, 22]
    irqLine :=
      [[], [], [], [], [], [], [],
       [some 0, some 1, some 2, some 3, some 4, some 5, some 6, some 7, some 8, some 9, some 10, some 11, some 12,
        some 13, some 14, some 15, some 16, some 17, some 18, some 19, some 20, some 21],
       [none, none, none, none, none, none, none, none, none, none,
        some 22, some 23, some 24, some 25, some 26, some 27, some 28, some 29, some 30, some 31]]
    w1cReeval   := false
    regionBytes := 0x400
    sensA       := SensorParams.symbolic .a
    sensC       := SensorParams.symbolic .c
    layout      := [] }

/-- R9, R53: the ranges of the parameters: 1 <= N <= 14, 1 <= pins(n) <= 32, and a register window of whole words that
holds the last register. The ranges of the other parameters are those of their types. -/
abbrev Params.Wf (p : Params) : Prop :=
  (1 ≤ p.nPorts ∧ 0x24 * p.nPorts ≤ 0x200) ∧ (∀ c ∈ p.pins, 1 ≤ c ∧ c ≤ 32) ∧
    p.regionBytes % 4 = 0 ∧ 0x21C ≤ p.regionBytes

end Sys2Proof
end

