-- ==== Sys2Proof/Syntax.lean ====
section
/-! DEFINITION. The operations an outside agent presents (30_encoding.md R70, R71: an operation is a tuple, there is no
bit-level instruction word) and `Instr`, the rows of spec/opcode_table.json. A row is one operation at one register
offset (`RD`, `WR`), or the operation itself; the rows of A.TX, A.RX and C.XFER tell apart the cases of the device's state
and of the byte (R91). -/

namespace Sys2Proof

/-- R39: a sensor's byte counter `cnt`, which takes the values 0, 1 and 2 and saturates at 2 (R190). -/
inductive Phase where
  /-- cnt = 0: the next byte is the pointer or command byte. -/
  | phase0
  /-- cnt = 1: the next byte is the data byte. -/
  | phase1
  /-- cnt = 2: the transaction is used up; any further byte is an oversized transfer. -/
  | used
deriving DecidableEq, Repr

/-- R11, R76: the nine ports of the reference sizing, which name the port rows of the opcode table. -/
inductive PortName where
  | pa | pb | pc | pd | pe | pf | pg | ph | pi
deriving DecidableEq, Repr

/-- R74: the nine registers of a port, `r` = 0 to 8. -/
inductive PortReg where
  | cfg0 | cfg1 | cfg2 | cfg3 | dat | drv0 | drv1 | pul0 | pul1
deriving DecidableEq, Repr

/-- R70: the operations as they are presented at an interface. `size` is the width of a bus access in bytes; the
operations of the spec are those of size 4 (R56), written MemRead(off, 4) and MemWrite(off, 4, v) in R17. -/
inductive Op where
  /-- `RD off` (host). -/
  | rd (size off : Nat)
  /-- `WR off, v` (host). -/
  | wr (size off : Nat) (v : Word)
  /-- `PIN n, i, l` (outside world). -/
  | pin (n i : Nat) (l : Bool)
  /-- `RST` (reset controller). -/
  | rst
  /-- `A.SEL` (bus master of SENS_A). -/
  | aSel
  /-- `A.DESEL`. -/
  | aDesel
  /-- `A.TX b`: a byte to the device. -/
  | aTx (b : Byte)
  /-- `A.RX`: a byte from the device. -/
  | aRx
  /-- `A.RST` (reset controller). -/
  | aRst
  /-- `C.SEL` (bus master of SENS_C). -/
  | cSel
  /-- `C.DESEL`. -/
  | cDesel
  /-- `C.XFER b`: a byte each way. -/
  | cXfer (b : Byte)
  /-- `C.RST` (reset controller). -/
  | cRst
deriving DecidableEq, Repr

/-- The 200 rows of spec/opcode_table.json, in the table's order. The three rows of A.TX, and the three of A.RX, have one
mnemonic and one encoding and differ by the device's `cnt` alone. -/
inductive Instr where
  /-- RD_PA.CFG0 -/
  | rdPaCfg0
  /-- WR_PA.CFG0 -/
  | wrPaCfg0 (v : Word)
  /-- RD_PA.CFG1 -/
  | rdPaCfg1
  /-- WR_PA.CFG1 -/
  | wrPaCfg1 (v : Word)
  /-- RD_PA.CFG2 -/
  | rdPaCfg2
  /-- WR_PA.CFG2 -/
  | wrPaCfg2 (v : Word)
  /-- RD_PA.CFG3 -/
  | rdPaCfg3
  /-- WR_PA.CFG3 -/
  | wrPaCfg3 (v : Word)
  /-- RD_PA.DAT -/
  | rdPaDat
  /-- WR_PA.DAT -/
  | wrPaDat (v : Word)
  /-- RD_PA.DRV0 -/
  | rdPaDrv0
  /-- WR_PA.DRV0 -/
  | wrPaDrv0 (v : Word)
  /-- RD_PA.DRV1 -/
  | rdPaDrv1
  /-- WR_PA.DRV1 -/
  | wrPaDrv1 (v : Word)
  /-- RD_PA.PUL0 -/
  | rdPaPul0
  /-- WR_PA.PUL0 -/
  | wrPaPul0 (v : Word)
  /-- RD_PA.PUL1 -/
  | rdPaPul1
  /-- WR_PA.PUL1 -/
  | wrPaPul1 (v : Word)
  /-- RD_PB.CFG0 -/
  | rdPbCfg0
  /-- WR_PB.CFG0 -/
  | wrPbCfg0 (v : Word)
  /-- RD_PB.CFG1 -/
  | rdPbCfg1
  /-- WR_PB.CFG1 -/
  | wrPbCfg1 (v : Word)
  /-- RD_PB.CFG2 -/
  | rdPbCfg2
  /-- WR_PB.CFG2 -/
  | wrPbCfg2 (v : Word)
  /-- RD_PB.CFG3 -/
  | rdPbCfg3
  /-- WR_PB.CFG3 -/
  | wrPbCfg3 (v : Word)
  /-- RD_PB.DAT -/
  | rdPbDat
  /-- WR_PB.DAT -/
  | wrPbDat (v : Word)
  /-- RD_PB.DRV0 -/
  | rdPbDrv0
  /-- WR_PB.DRV0 -/
  | wrPbDrv0 (v : Word)
  /-- RD_PB.DRV1 -/
  | rdPbDrv1
  /-- WR_PB.DRV1 -/
  | wrPbDrv1 (v : Word)
  /-- RD_PB.PUL0 -/
  | rdPbPul0
  /-- WR_PB.PUL0 -/
  | wrPbPul0 (v : Word)
  /-- RD_PB.PUL1 -/
  | rdPbPul1
  /-- WR_PB.PUL1 -/
  | wrPbPul1 (v : Word)
  /-- RD_PC.CFG0 -/
  | rdPcCfg0
  /-- WR_PC.CFG0 -/
  | wrPcCfg0 (v : Word)
  /-- RD_PC.CFG1 -/
  | rdPcCfg1
  /-- WR_PC.CFG1 -/
  | wrPcCfg1 (v : Word)
  /-- RD_PC.CFG2 -/
  | rdPcCfg2
  /-- WR_PC.CFG2 -/
  | wrPcCfg2 (v : Word)
  /-- RD_PC.CFG3 -/
  | rdPcCfg3
  /-- WR_PC.CFG3 -/
  | wrPcCfg3 (v : Word)
  /-- RD_PC.DAT -/
  | rdPcDat
  /-- WR_PC.DAT -/
  | wrPcDat (v : Word)
  /-- RD_PC.DRV0 -/
  | rdPcDrv0
  /-- WR_PC.DRV0 -/
  | wrPcDrv0 (v : Word)
  /-- RD_PC.DRV1 -/
  | rdPcDrv1
  /-- WR_PC.DRV1 -/
  | wrPcDrv1 (v : Word)
  /-- RD_PC.PUL0 -/
  | rdPcPul0
  /-- WR_PC.PUL0 -/
  | wrPcPul0 (v : Word)
  /-- RD_PC.PUL1 -/
  | rdPcPul1
  /-- WR_PC.PUL1 -/
  | wrPcPul1 (v : Word)
  /-- RD_PD.CFG0 -/
  | rdPdCfg0
  /-- WR_PD.CFG0 -/
  | wrPdCfg0 (v : Word)
  /-- RD_PD.CFG1 -/
  | rdPdCfg1
  /-- WR_PD.CFG1 -/
  | wrPdCfg1 (v : Word)
  /-- RD_PD.CFG2 -/
  | rdPdCfg2
  /-- WR_PD.CFG2 -/
  | wrPdCfg2 (v : Word)
  /-- RD_PD.CFG3 -/
  | rdPdCfg3
  /-- WR_PD.CFG3 -/
  | wrPdCfg3 (v : Word)
  /-- RD_PD.DAT -/
  | rdPdDat
  /-- WR_PD.DAT -/
  | wrPdDat (v : Word)
  /-- RD_PD.DRV0 -/
  | rdPdDrv0
  /-- WR_PD.DRV0 -/
  | wrPdDrv0 (v : Word)
  /-- RD_PD.DRV1 -/
  | rdPdDrv1
  /-- WR_PD.DRV1 -/
  | wrPdDrv1 (v : Word)
  /-- RD_PD.PUL0 -/
  | rdPdPul0
  /-- WR_PD.PUL0 -/
  | wrPdPul0 (v : Word)
  /-- RD_PD.PUL1 -/
  | rdPdPul1
  /-- WR_PD.PUL1 -/
  | wrPdPul1 (v : Word)
  /-- RD_PE.CFG0 -/
  | rdPeCfg0
  /-- WR_PE.CFG0 -/
  | wrPeCfg0 (v : Word)
  /-- RD_PE.CFG1 -/
  | rdPeCfg1
  /-- WR_PE.CFG1 -/
  | wrPeCfg1 (v : Word)
  /-- RD_PE.CFG2 -/
  | rdPeCfg2
  /-- WR_PE.CFG2 -/
  | wrPeCfg2 (v : Word)
  /-- RD_PE.CFG3 -/
  | rdPeCfg3
  /-- WR_PE.CFG3 -/
  | wrPeCfg3 (v : Word)
  /-- RD_PE.DAT -/
  | rdPeDat
  /-- WR_PE.DAT -/
  | wrPeDat (v : Word)
  /-- RD_PE.DRV0 -/
  | rdPeDrv0
  /-- WR_PE.DRV0 -/
  | wrPeDrv0 (v : Word)
  /-- RD_PE.DRV1 -/
  | rdPeDrv1
  /-- WR_PE.DRV1 -/
  | wrPeDrv1 (v : Word)
  /-- RD_PE.PUL0 -/
  | rdPePul0
  /-- WR_PE.PUL0 -/
  | wrPePul0 (v : Word)
  /-- RD_PE.PUL1 -/
  | rdPePul1
  /-- WR_PE.PUL1 -/
  | wrPePul1 (v : Word)
  /-- RD_PF.CFG0 -/
  | rdPfCfg0
  /-- WR_PF.CFG0 -/
  | wrPfCfg0 (v : Word)
  /-- RD_PF.CFG1 -/
  | rdPfCfg1
  /-- WR_PF.CFG1 -/
  | wrPfCfg1 (v : Word)
  /-- RD_PF.CFG2 -/
  | rdPfCfg2
  /-- WR_PF.CFG2 -/
  | wrPfCfg2 (v : Word)
  /-- RD_PF.CFG3 -/
  | rdPfCfg3
  /-- WR_PF.CFG3 -/
  | wrPfCfg3 (v : Word)
  /-- RD_PF.DAT -/
  | rdPfDat
  /-- WR_PF.DAT -/
  | wrPfDat (v : Word)
  /-- RD_PF.DRV0 -/
  | rdPfDrv0
  /-- WR_PF.DRV0 -/
  | wrPfDrv0 (v : Word)
  /-- RD_PF.DRV1 -/
  | rdPfDrv1
  /-- WR_PF.DRV1 -/
  | wrPfDrv1 (v : Word)
  /-- RD_PF.PUL0 -/
  | rdPfPul0
  /-- WR_PF.PUL0 -/
  | wrPfPul0 (v : Word)
  /-- RD_PF.PUL1 -/
  | rdPfPul1
  /-- WR_PF.PUL1 -/
  | wrPfPul1 (v : Word)
  /-- RD_PG.CFG0 -/
  | rdPgCfg0
  /-- WR_PG.CFG0 -/
  | wrPgCfg0 (v : Word)
  /-- RD_PG.CFG1 -/
  | rdPgCfg1
  /-- WR_PG.CFG1 -/
  | wrPgCfg1 (v : Word)
  /-- RD_PG.CFG2 -/
  | rdPgCfg2
  /-- WR_PG.CFG2 -/
  | wrPgCfg2 (v : Word)
  /-- RD_PG.CFG3 -/
  | rdPgCfg3
  /-- WR_PG.CFG3 -/
  | wrPgCfg3 (v : Word)
  /-- RD_PG.DAT -/
  | rdPgDat
  /-- WR_PG.DAT -/
  | wrPgDat (v : Word)
  /-- RD_PG.DRV0 -/
  | rdPgDrv0
  /-- WR_PG.DRV0 -/
  | wrPgDrv0 (v : Word)
  /-- RD_PG.DRV1 -/
  | rdPgDrv1
  /-- WR_PG.DRV1 -/
  | wrPgDrv1 (v : Word)
  /-- RD_PG.PUL0 -/
  | rdPgPul0
  /-- WR_PG.PUL0 -/
  | wrPgPul0 (v : Word)
  /-- RD_PG.PUL1 -/
  | rdPgPul1
  /-- WR_PG.PUL1 -/
  | wrPgPul1 (v : Word)
  /-- RD_PH.CFG0 -/
  | rdPhCfg0
  /-- WR_PH.CFG0 -/
  | wrPhCfg0 (v : Word)
  /-- RD_PH.CFG1 -/
  | rdPhCfg1
  /-- WR_PH.CFG1 -/
  | wrPhCfg1 (v : Word)
  /-- RD_PH.CFG2 -/
  | rdPhCfg2
  /-- WR_PH.CFG2 -/
  | wrPhCfg2 (v : Word)
  /-- RD_PH.CFG3 -/
  | rdPhCfg3
  /-- WR_PH.CFG3 -/
  | wrPhCfg3 (v : Word)
  /-- RD_PH.DAT -/
  | rdPhDat
  /-- WR_PH.DAT -/
  | wrPhDat (v : Word)
  /-- RD_PH.DRV0 -/
  | rdPhDrv0
  /-- WR_PH.DRV0 -/
  | wrPhDrv0 (v : Word)
  /-- RD_PH.DRV1 -/
  | rdPhDrv1
  /-- WR_PH.DRV1 -/
  | wrPhDrv1 (v : Word)
  /-- RD_PH.PUL0 -/
  | rdPhPul0
  /-- WR_PH.PUL0 -/
  | wrPhPul0 (v : Word)
  /-- RD_PH.PUL1 -/
  | rdPhPul1
  /-- WR_PH.PUL1 -/
  | wrPhPul1 (v : Word)
  /-- RD_PI.CFG0 -/
  | rdPiCfg0
  /-- WR_PI.CFG0 -/
  | wrPiCfg0 (v : Word)
  /-- RD_PI.CFG1 -/
  | rdPiCfg1
  /-- WR_PI.CFG1 -/
  | wrPiCfg1 (v : Word)
  /-- RD_PI.CFG2 -/
  | rdPiCfg2
  /-- WR_PI.CFG2 -/
  | wrPiCfg2 (v : Word)
  /-- RD_PI.CFG3 -/
  | rdPiCfg3
  /-- WR_PI.CFG3 -/
  | wrPiCfg3 (v : Word)
  /-- RD_PI.DAT -/
  | rdPiDat
  /-- WR_PI.DAT -/
  | wrPiDat (v : Word)
  /-- RD_PI.DRV0 -/
  | rdPiDrv0
  /-- WR_PI.DRV0 -/
  | wrPiDrv0 (v : Word)
  /-- RD_PI.DRV1 -/
  | rdPiDrv1
  /-- WR_PI.DRV1 -/
  | wrPiDrv1 (v : Word)
  /-- RD_PI.PUL0 -/
  | rdPiPul0
  /-- WR_PI.PUL0 -/
  | wrPiPul0 (v : Word)
  /-- RD_PI.PUL1 -/
  | rdPiPul1
  /-- WR_PI.PUL1 -/
  | wrPiPul1 (v : Word)
  /-- RD_INT_CFG0 -/
  | rdIntCfg0
  /-- WR_INT_CFG0 -/
  | wrIntCfg0 (v : Word)
  /-- RD_INT_CFG1 -/
  | rdIntCfg1
  /-- WR_INT_CFG1 -/
  | wrIntCfg1 (v : Word)
  /-- RD_INT_CFG2 -/
  | rdIntCfg2
  /-- WR_INT_CFG2 -/
  | wrIntCfg2 (v : Word)
  /-- RD_INT_CFG3 -/
  | rdIntCfg3
  /-- WR_INT_CFG3 -/
  | wrIntCfg3 (v : Word)
  /-- RD_INT_CTL -/
  | rdIntCtl
  /-- WR_INT_CTL -/
  | wrIntCtl (v : Word)
  /-- RD_INT_STA -/
  | rdIntSta
  /-- WR_INT_STA -/
  | wrIntSta (v : Word)
  /-- RD_INT_DEB -/
  | rdIntDeb
  /-- WR_INT_DEB -/
  | wrIntDeb (v : Word)
  /-- RD__misaligned -/
  | rdMisaligned (off : Nat)
  /-- RD__unmapped -/
  | rdUnmapped (off : Nat)
  /-- WR__misaligned -/
  | wrMisaligned (off : Nat) (v : Word)
  /-- WR__unmapped -/
  | wrUnmapped (off : Nat) (v : Word)
  /-- PIN -/
  | pin (n : Nat) (i : Nat) (l : Bool)
  /-- RST -/
  | rst
  /-- A.SEL -/
  | aSel
  /-- A.DESEL -/
  | aDesel
  /-- A.RST -/
  | aRst
  /-- C.SEL -/
  | cSel
  /-- C.DESEL -/
  | cDesel
  /-- C.RST -/
  | cRst
  /-- A.TX, cnt = 0: the pointer byte. -/
  | aTxPointer (b : Byte)
  /-- A.TX, cnt = 1: the data byte of a write. -/
  | aTxData (b : Byte)
  /-- A.TX, cnt = 2: oversized. -/
  | aTxOversized (b : Byte)
  /-- A.RX, cnt = 0: refused. -/
  | aRxFirst
  /-- A.RX, cnt = 1: the data byte of a read. -/
  | aRxData
  /-- A.RX, cnt = 2: oversized. -/
  | aRxOversized
  /-- C.XFER__read_command -/
  | cXferReadCommand (r : BitVec 6)
  /-- C.XFER__write_command -/
  | cXferWriteCommand (r : BitVec 6)
  /-- C.XFER__start_flag_clear -/
  | cXferStartFlagClear (x : BitVec 7)
  /-- C.XFER__read_data -/
  | cXferReadData (d : Byte)
  /-- C.XFER__write_data -/
  | cXferWriteData (d : Byte)
  /-- C.XFER__oversized -/
  | cXferOversized (b : Byte)
deriving DecidableEq, Repr

end Sys2Proof
end

