-- ==== Sys2Proof/WellFormed.lean ====
section
/-! DEFINITION. Which operands a row of the opcode table may have (30_encoding.md R72, R87, R91). Every value of a
word, a byte or a bit-field operand is admitted; the checks are on the natural-number operands. -/

namespace Sys2Proof

/-- R51: the aligned offsets of the N = 9 map, which have a row of their own: the port area 0x000 to 0x143 and the
global registers 0x200 to 0x218. -/
def mappedOffset (off : Nat) : Bool := off < 0x144 || (0x200 ≤ off && off ≤ 0x218)

/-- The operands of each row: a misaligned offset is no multiple of 4 (R55), an unmapped one is aligned and has no row of
its own (R91), and PIN names a pin that the block has (R72); the other rows have nothing to check. -/
def Instr.wellFormed (cfg : Params) (i : Instr) : Bool :=
  match i with
  | .rdMisaligned off => off % 4 != 0
  | .wrMisaligned off _ => off % 4 != 0
  | .rdUnmapped off => off % 4 == 0 && !mappedOffset off
  | .wrUnmapped off _ => off % 4 == 0 && !mappedOffset off
  | .pin n j _ => n < cfg.nPorts && j < cfg.pinCount n
  | .rdPaCfg0 | .wrPaCfg0 _ | .rdPaCfg1 | .wrPaCfg1 _ | .rdPaCfg2 | .wrPaCfg2 _ | .rdPaCfg3 | .wrPaCfg3 _ | .rdPaDat
  | .wrPaDat _ | .rdPaDrv0 | .wrPaDrv0 _ | .rdPaDrv1 | .wrPaDrv1 _ | .rdPaPul0 | .wrPaPul0 _ | .rdPaPul1
  | .wrPaPul1 _ | .rdPbCfg0 | .wrPbCfg0 _ | .rdPbCfg1 | .wrPbCfg1 _ | .rdPbCfg2 | .wrPbCfg2 _ | .rdPbCfg3
  | .wrPbCfg3 _ | .rdPbDat | .wrPbDat _ | .rdPbDrv0 | .wrPbDrv0 _ | .rdPbDrv1 | .wrPbDrv1 _ | .rdPbPul0 | .wrPbPul0 _
  | .rdPbPul1 | .wrPbPul1 _ | .rdPcCfg0 | .wrPcCfg0 _ | .rdPcCfg1 | .wrPcCfg1 _ | .rdPcCfg2 | .wrPcCfg2 _ | .rdPcCfg3
  | .wrPcCfg3 _ | .rdPcDat | .wrPcDat _ | .rdPcDrv0 | .wrPcDrv0 _ | .rdPcDrv1 | .wrPcDrv1 _ | .rdPcPul0 | .wrPcPul0 _
  | .rdPcPul1 | .wrPcPul1 _ | .rdPdCfg0 | .wrPdCfg0 _ | .rdPdCfg1 | .wrPdCfg1 _ | .rdPdCfg2 | .wrPdCfg2 _ | .rdPdCfg3
  | .wrPdCfg3 _ | .rdPdDat | .wrPdDat _ | .rdPdDrv0 | .wrPdDrv0 _ | .rdPdDrv1 | .wrPdDrv1 _ | .rdPdPul0 | .wrPdPul0 _
  | .rdPdPul1 | .wrPdPul1 _ | .rdPeCfg0 | .wrPeCfg0 _ | .rdPeCfg1 | .wrPeCfg1 _ | .rdPeCfg2 | .wrPeCfg2 _ | .rdPeCfg3
  | .wrPeCfg3 _ | .rdPeDat | .wrPeDat _ | .rdPeDrv0 | .wrPeDrv0 _ | .rdPeDrv1 | .wrPeDrv1 _ | .rdPePul0 | .wrPePul0 _
  | .rdPePul1 | .wrPePul1 _ | .rdPfCfg0 | .wrPfCfg0 _ | .rdPfCfg1 | .wrPfCfg1 _ | .rdPfCfg2 | .wrPfCfg2 _ | .rdPfCfg3
  | .wrPfCfg3 _ | .rdPfDat | .wrPfDat _ | .rdPfDrv0 | .wrPfDrv0 _ | .rdPfDrv1 | .wrPfDrv1 _ | .rdPfPul0 | .wrPfPul0 _
  | .rdPfPul1 | .wrPfPul1 _ | .rdPgCfg0 | .wrPgCfg0 _ | .rdPgCfg1 | .wrPgCfg1 _ | .rdPgCfg2 | .wrPgCfg2 _ | .rdPgCfg3
  | .wrPgCfg3 _ | .rdPgDat | .wrPgDat _ | .rdPgDrv0 | .wrPgDrv0 _ | .rdPgDrv1 | .wrPgDrv1 _ | .rdPgPul0 | .wrPgPul0 _
  | .rdPgPul1 | .wrPgPul1 _ | .rdPhCfg0 | .wrPhCfg0 _ | .rdPhCfg1 | .wrPhCfg1 _ | .rdPhCfg2 | .wrPhCfg2 _ | .rdPhCfg3
  | .wrPhCfg3 _ | .rdPhDat | .wrPhDat _ | .rdPhDrv0 | .wrPhDrv0 _ | .rdPhDrv1 | .wrPhDrv1 _ | .rdPhPul0 | .wrPhPul0 _
  | .rdPhPul1 | .wrPhPul1 _ | .rdPiCfg0 | .wrPiCfg0 _ | .rdPiCfg1 | .wrPiCfg1 _ | .rdPiCfg2 | .wrPiCfg2 _ | .rdPiCfg3
  | .wrPiCfg3 _ | .rdPiDat | .wrPiDat _ | .rdPiDrv0 | .wrPiDrv0 _ | .rdPiDrv1 | .wrPiDrv1 _ | .rdPiPul0 | .wrPiPul0 _
  | .rdPiPul1 | .wrPiPul1 _ | .rdIntCfg0 | .wrIntCfg0 _ | .rdIntCfg1 | .wrIntCfg1 _ | .rdIntCfg2 | .wrIntCfg2 _
  | .rdIntCfg3 | .wrIntCfg3 _ | .rdIntCtl | .wrIntCtl _ | .rdIntSta | .wrIntSta _ | .rdIntDeb | .wrIntDeb _ | .rst
  | .aSel | .aDesel | .aRst | .cSel | .cDesel | .cRst | .aTxPointer _ | .aTxData _ | .aTxOversized _ | .aRxFirst
  | .aRxData | .aRxOversized | .cXferReadCommand _ | .cXferWriteCommand _ | .cXferStartFlagClear _ | .cXferReadData _
  | .cXferWriteData _ | .cXferOversized _ => true

/-- The part of the state that the table's `when` keys name (R91): `cnt` of each sensor and the direction that SENS_C's
`ptr` holds. -/
structure Phases where
  cntA   : Phase
  cntC   : Phase
  isRead : Bool
deriving DecidableEq, Repr

/-- R91: the rows of a byte operation are selected by the device's state: those of A.TX and A.RX by cnt of SENS_A; of
C.XFER the three command rows when cnt of SENS_C is 0, the two data rows when it is 1 by the direction held in ptr, the last
when it is 2. Every other row is selected in every state. -/
def Instr.selectedIn (ph : Phases) (i : Instr) : Bool :=
  match i with
  | .aTxPointer _ => ph.cntA == .phase0
  | .aTxData _ => ph.cntA == .phase1
  | .aTxOversized _ => ph.cntA == .used
  | .aRxFirst => ph.cntA == .phase0
  | .aRxData => ph.cntA == .phase1
  | .aRxOversized => ph.cntA == .used
  | .cXferReadCommand _ => ph.cntC == .phase0
  | .cXferWriteCommand _ => ph.cntC == .phase0
  | .cXferStartFlagClear _ => ph.cntC == .phase0
  | .cXferReadData _ => ph.cntC == .phase1 && ph.isRead
  | .cXferWriteData _ => ph.cntC == .phase1 && !ph.isRead
  | .cXferOversized _ => ph.cntC == .used
  | .rdPaCfg0 | .wrPaCfg0 _ | .rdPaCfg1 | .wrPaCfg1 _ | .rdPaCfg2 | .wrPaCfg2 _ | .rdPaCfg3 | .wrPaCfg3 _ | .rdPaDat
  | .wrPaDat _ | .rdPaDrv0 | .wrPaDrv0 _ | .rdPaDrv1 | .wrPaDrv1 _ | .rdPaPul0 | .wrPaPul0 _ | .rdPaPul1
  | .wrPaPul1 _ | .rdPbCfg0 | .wrPbCfg0 _ | .rdPbCfg1 | .wrPbCfg1 _ | .rdPbCfg2 | .wrPbCfg2 _ | .rdPbCfg3
  | .wrPbCfg3 _ | .rdPbDat | .wrPbDat _ | .rdPbDrv0 | .wrPbDrv0 _ | .rdPbDrv1 | .wrPbDrv1 _ | .rdPbPul0 | .wrPbPul0 _
  | .rdPbPul1 | .wrPbPul1 _ | .rdPcCfg0 | .wrPcCfg0 _ | .rdPcCfg1 | .wrPcCfg1 _ | .rdPcCfg2 | .wrPcCfg2 _ | .rdPcCfg3
  | .wrPcCfg3 _ | .rdPcDat | .wrPcDat _ | .rdPcDrv0 | .wrPcDrv0 _ | .rdPcDrv1 | .wrPcDrv1 _ | .rdPcPul0 | .wrPcPul0 _
  | .rdPcPul1 | .wrPcPul1 _ | .rdPdCfg0 | .wrPdCfg0 _ | .rdPdCfg1 | .wrPdCfg1 _ | .rdPdCfg2 | .wrPdCfg2 _ | .rdPdCfg3
  | .wrPdCfg3 _ | .rdPdDat | .wrPdDat _ | .rdPdDrv0 | .wrPdDrv0 _ | .rdPdDrv1 | .wrPdDrv1 _ | .rdPdPul0 | .wrPdPul0 _
  | .rdPdPul1 | .wrPdPul1 _ | .rdPeCfg0 | .wrPeCfg0 _ | .rdPeCfg1 | .wrPeCfg1 _ | .rdPeCfg2 | .wrPeCfg2 _ | .rdPeCfg3
  | .wrPeCfg3 _ | .rdPeDat | .wrPeDat _ | .rdPeDrv0 | .wrPeDrv0 _ | .rdPeDrv1 | .wrPeDrv1 _ | .rdPePul0 | .wrPePul0 _
  | .rdPePul1 | .wrPePul1 _ | .rdPfCfg0 | .wrPfCfg0 _ | .rdPfCfg1 | .wrPfCfg1 _ | .rdPfCfg2 | .wrPfCfg2 _ | .rdPfCfg3
  | .wrPfCfg3 _ | .rdPfDat | .wrPfDat _ | .rdPfDrv0 | .wrPfDrv0 _ | .rdPfDrv1 | .wrPfDrv1 _ | .rdPfPul0 | .wrPfPul0 _
  | .rdPfPul1 | .wrPfPul1 _ | .rdPgCfg0 | .wrPgCfg0 _ | .rdPgCfg1 | .wrPgCfg1 _ | .rdPgCfg2 | .wrPgCfg2 _ | .rdPgCfg3
  | .wrPgCfg3 _ | .rdPgDat | .wrPgDat _ | .rdPgDrv0 | .wrPgDrv0 _ | .rdPgDrv1 | .wrPgDrv1 _ | .rdPgPul0 | .wrPgPul0 _
  | .rdPgPul1 | .wrPgPul1 _ | .rdPhCfg0 | .wrPhCfg0 _ | .rdPhCfg1 | .wrPhCfg1 _ | .rdPhCfg2 | .wrPhCfg2 _ | .rdPhCfg3
  | .wrPhCfg3 _ | .rdPhDat | .wrPhDat _ | .rdPhDrv0 | .wrPhDrv0 _ | .rdPhDrv1 | .wrPhDrv1 _ | .rdPhPul0 | .wrPhPul0 _
  | .rdPhPul1 | .wrPhPul1 _ | .rdPiCfg0 | .wrPiCfg0 _ | .rdPiCfg1 | .wrPiCfg1 _ | .rdPiCfg2 | .wrPiCfg2 _ | .rdPiCfg3
  | .wrPiCfg3 _ | .rdPiDat | .wrPiDat _ | .rdPiDrv0 | .wrPiDrv0 _ | .rdPiDrv1 | .wrPiDrv1 _ | .rdPiPul0 | .wrPiPul0 _
  | .rdPiPul1 | .wrPiPul1 _ | .rdIntCfg0 | .wrIntCfg0 _ | .rdIntCfg1 | .wrIntCfg1 _ | .rdIntCfg2 | .wrIntCfg2 _
  | .rdIntCfg3 | .wrIntCfg3 _ | .rdIntCtl | .wrIntCtl _ | .rdIntSta | .wrIntSta _ | .rdIntDeb | .wrIntDeb _
  | .rdMisaligned _ | .rdUnmapped _ | .wrMisaligned _ _ | .wrUnmapped _ _ | .pin _ _ _ | .rst | .aSel | .aDesel
  | .aRst | .cSel | .cDesel | .cRst => true

end Sys2Proof
end

