-- ==== Sys2Proof/Decode.lean ====
section
/-! DEFINITION. From an operation presented at an interface to the row of the opcode table that it selects (R73, R91),
and back. The spec has no bit-level instruction word (R71): what is decoded is the offset of a bus access, the command
byte of SENS_C, and the operands' ranges. -/

namespace Sys2Proof

/-- The results of R73's `decode(off)`. -/
inductive Target where
  | port (n : Nat) (k : PortReg)
  | intCfg (k : Fin 4)
  | intCtl
  | intSta
  | intDeb
  | unmapped
deriving DecidableEq, Repr

/-- Why a presented operation has no row: the spec gives it no meaning. -/
inductive DecodeError where
  /-- R56, R242: a GPIO bus access of 8, 16, 64 or any width other than 32 bits. -/
  | accessWidth (size : Nat)
  /-- R72, R242: `PIN n, i, l` with `n >= N` or `i >= pins(n)`. -/
  | pinOutOfRange
deriving DecidableEq, Repr

/-- R73: `kind(r)`, for 0 <= r <= 8. -/
def PortReg.ofIndex (r : Nat) : PortReg :=
  match r with
  | 0 => .cfg0 | 1 => .cfg1 | 2 => .cfg2 | 3 => .cfg3 | 4 => .dat | 5 => .drv0 | 6 => .drv1 | 7 => .pul0 | _ => .pul1

/-- R74: the index `r` of a port register. -/
def PortReg.index (k : PortReg) : Nat :=
  match k with
  | .cfg0 => 0 | .cfg1 => 1 | .cfg2 => 2 | .cfg3 => 3 | .dat => 4 | .drv0 => 5 | .drv1 => 6 | .pul0 => 7 | .pul1 => 8

/-- R76: the port number of a name. -/
def PortName.index (p : PortName) : Nat :=
  match p with
  | .pa => 0 | .pb => 1 | .pc => 2 | .pd => 3 | .pe => 4 | .pf => 5 | .pg => 6 | .ph => 7 | .pi => 8

/-- R76: the name of a port number, for 0 <= n <= 8. -/
def PortName.ofIndex (n : Nat) : PortName :=
  match n with
  | 0 => .pa | 1 => .pb | 2 => .pc | 3 => .pd | 4 => .pe | 5 => .pf | 6 => .pg | 7 => .ph | _ => .pi

/-- R73: decoding a byte offset to a register, for N ports. -/
def decodeOffset (nPorts off : Nat) : Target :=
  if off % 4 ≠ 0 then .unmapped
  else if off < 0x24 * nPorts then .port (off / 0x24) (PortReg.ofIndex (off % 0x24 / 4))
  else if off = 0x200 then .intCfg 0
  else if off = 0x204 then .intCfg 1
  else if off = 0x208 then .intCfg 2
  else if off = 0x20C then .intCfg 3
  else if off = 0x210 then .intCtl
  else if off = 0x214 then .intSta
  else if off = 0x218 then .intDeb
  else .unmapped

/-- The `RD` row of a port register. -/
def Instr.rdPort (p : PortName) (k : PortReg) : Instr :=
  match p, k with
  | .pa, .cfg0 => .rdPaCfg0 | .pa, .cfg1 => .rdPaCfg1 | .pa, .cfg2 => .rdPaCfg2 | .pa, .cfg3 => .rdPaCfg3
  | .pa, .dat => .rdPaDat | .pa, .drv0 => .rdPaDrv0 | .pa, .drv1 => .rdPaDrv1 | .pa, .pul0 => .rdPaPul0
  | .pa, .pul1 => .rdPaPul1
  | .pb, .cfg0 => .rdPbCfg0 | .pb, .cfg1 => .rdPbCfg1 | .pb, .cfg2 => .rdPbCfg2 | .pb, .cfg3 => .rdPbCfg3
  | .pb, .dat => .rdPbDat | .pb, .drv0 => .rdPbDrv0 | .pb, .drv1 => .rdPbDrv1 | .pb, .pul0 => .rdPbPul0
  | .pb, .pul1 => .rdPbPul1
  | .pc, .cfg0 => .rdPcCfg0 | .pc, .cfg1 => .rdPcCfg1 | .pc, .cfg2 => .rdPcCfg2 | .pc, .cfg3 => .rdPcCfg3
  | .pc, .dat => .rdPcDat | .pc, .drv0 => .rdPcDrv0 | .pc, .drv1 => .rdPcDrv1 | .pc, .pul0 => .rdPcPul0
  | .pc, .pul1 => .rdPcPul1
  | .pd, .cfg0 => .rdPdCfg0 | .pd, .cfg1 => .rdPdCfg1 | .pd, .cfg2 => .rdPdCfg2 | .pd, .cfg3 => .rdPdCfg3
  | .pd, .dat => .rdPdDat | .pd, .drv0 => .rdPdDrv0 | .pd, .drv1 => .rdPdDrv1 | .pd, .pul0 => .rdPdPul0
  | .pd, .pul1 => .rdPdPul1
  | .pe, .cfg0 => .rdPeCfg0 | .pe, .cfg1 => .rdPeCfg1 | .pe, .cfg2 => .rdPeCfg2 | .pe, .cfg3 => .rdPeCfg3
  | .pe, .dat => .rdPeDat | .pe, .drv0 => .rdPeDrv0 | .pe, .drv1 => .rdPeDrv1 | .pe, .pul0 => .rdPePul0
  | .pe, .pul1 => .rdPePul1
  | .pf, .cfg0 => .rdPfCfg0 | .pf, .cfg1 => .rdPfCfg1 | .pf, .cfg2 => .rdPfCfg2 | .pf, .cfg3 => .rdPfCfg3
  | .pf, .dat => .rdPfDat | .pf, .drv0 => .rdPfDrv0 | .pf, .drv1 => .rdPfDrv1 | .pf, .pul0 => .rdPfPul0
  | .pf, .pul1 => .rdPfPul1
  | .pg, .cfg0 => .rdPgCfg0 | .pg, .cfg1 => .rdPgCfg1 | .pg, .cfg2 => .rdPgCfg2 | .pg, .cfg3 => .rdPgCfg3
  | .pg, .dat => .rdPgDat | .pg, .drv0 => .rdPgDrv0 | .pg, .drv1 => .rdPgDrv1 | .pg, .pul0 => .rdPgPul0
  | .pg, .pul1 => .rdPgPul1
  | .ph, .cfg0 => .rdPhCfg0 | .ph, .cfg1 => .rdPhCfg1 | .ph, .cfg2 => .rdPhCfg2 | .ph, .cfg3 => .rdPhCfg3
  | .ph, .dat => .rdPhDat | .ph, .drv0 => .rdPhDrv0 | .ph, .drv1 => .rdPhDrv1 | .ph, .pul0 => .rdPhPul0
  | .ph, .pul1 => .rdPhPul1
  | .pi, .cfg0 => .rdPiCfg0 | .pi, .cfg1 => .rdPiCfg1 | .pi, .cfg2 => .rdPiCfg2 | .pi, .cfg3 => .rdPiCfg3
  | .pi, .dat => .rdPiDat | .pi, .drv0 => .rdPiDrv0 | .pi, .drv1 => .rdPiDrv1 | .pi, .pul0 => .rdPiPul0
  | .pi, .pul1 => .rdPiPul1

/-- The `WR` row of a port register. -/
def Instr.wrPort (p : PortName) (k : PortReg) (v : Word) : Instr :=
  match p, k with
  | .pa, .cfg0 => .wrPaCfg0 v | .pa, .cfg1 => .wrPaCfg1 v | .pa, .cfg2 => .wrPaCfg2 v | .pa, .cfg3 => .wrPaCfg3 v
  | .pa, .dat => .wrPaDat v | .pa, .drv0 => .wrPaDrv0 v | .pa, .drv1 => .wrPaDrv1 v | .pa, .pul0 => .wrPaPul0 v
  | .pa, .pul1 => .wrPaPul1 v
  | .pb, .cfg0 => .wrPbCfg0 v | .pb, .cfg1 => .wrPbCfg1 v | .pb, .cfg2 => .wrPbCfg2 v | .pb, .cfg3 => .wrPbCfg3 v
  | .pb, .dat => .wrPbDat v | .pb, .drv0 => .wrPbDrv0 v | .pb, .drv1 => .wrPbDrv1 v | .pb, .pul0 => .wrPbPul0 v
  | .pb, .pul1 => .wrPbPul1 v
  | .pc, .cfg0 => .wrPcCfg0 v | .pc, .cfg1 => .wrPcCfg1 v | .pc, .cfg2 => .wrPcCfg2 v | .pc, .cfg3 => .wrPcCfg3 v
  | .pc, .dat => .wrPcDat v | .pc, .drv0 => .wrPcDrv0 v | .pc, .drv1 => .wrPcDrv1 v | .pc, .pul0 => .wrPcPul0 v
  | .pc, .pul1 => .wrPcPul1 v
  | .pd, .cfg0 => .wrPdCfg0 v | .pd, .cfg1 => .wrPdCfg1 v | .pd, .cfg2 => .wrPdCfg2 v | .pd, .cfg3 => .wrPdCfg3 v
  | .pd, .dat => .wrPdDat v | .pd, .drv0 => .wrPdDrv0 v | .pd, .drv1 => .wrPdDrv1 v | .pd, .pul0 => .wrPdPul0 v
  | .pd, .pul1 => .wrPdPul1 v
  | .pe, .cfg0 => .wrPeCfg0 v | .pe, .cfg1 => .wrPeCfg1 v | .pe, .cfg2 => .wrPeCfg2 v | .pe, .cfg3 => .wrPeCfg3 v
  | .pe, .dat => .wrPeDat v | .pe, .drv0 => .wrPeDrv0 v | .pe, .drv1 => .wrPeDrv1 v | .pe, .pul0 => .wrPePul0 v
  | .pe, .pul1 => .wrPePul1 v
  | .pf, .cfg0 => .wrPfCfg0 v | .pf, .cfg1 => .wrPfCfg1 v | .pf, .cfg2 => .wrPfCfg2 v | .pf, .cfg3 => .wrPfCfg3 v
  | .pf, .dat => .wrPfDat v | .pf, .drv0 => .wrPfDrv0 v | .pf, .drv1 => .wrPfDrv1 v | .pf, .pul0 => .wrPfPul0 v
  | .pf, .pul1 => .wrPfPul1 v
  | .pg, .cfg0 => .wrPgCfg0 v | .pg, .cfg1 => .wrPgCfg1 v | .pg, .cfg2 => .wrPgCfg2 v | .pg, .cfg3 => .wrPgCfg3 v
  | .pg, .dat => .wrPgDat v | .pg, .drv0 => .wrPgDrv0 v | .pg, .drv1 => .wrPgDrv1 v | .pg, .pul0 => .wrPgPul0 v
  | .pg, .pul1 => .wrPgPul1 v
  | .ph, .cfg0 => .wrPhCfg0 v | .ph, .cfg1 => .wrPhCfg1 v | .ph, .cfg2 => .wrPhCfg2 v | .ph, .cfg3 => .wrPhCfg3 v
  | .ph, .dat => .wrPhDat v | .ph, .drv0 => .wrPhDrv0 v | .ph, .drv1 => .wrPhDrv1 v | .ph, .pul0 => .wrPhPul0 v
  | .ph, .pul1 => .wrPhPul1 v
  | .pi, .cfg0 => .wrPiCfg0 v | .pi, .cfg1 => .wrPiCfg1 v | .pi, .cfg2 => .wrPiCfg2 v | .pi, .cfg3 => .wrPiCfg3 v
  | .pi, .dat => .wrPiDat v | .pi, .drv0 => .wrPiDrv0 v | .pi, .drv1 => .wrPiDrv1 v | .pi, .pul0 => .wrPiPul0 v
  | .pi, .pul1 => .wrPiPul1 v

/-- R91: the `RD` row of an offset: the register's own row in the N = 9 map, else one of the two catch-all rows. -/
def decodeRd (off : Nat) : Instr :=
  if off % 4 ≠ 0 then .rdMisaligned off
  else match decodeOffset 9 off with
    | .port n k => Instr.rdPort (PortName.ofIndex n) k
    | .intCfg 0 => .rdIntCfg0
    | .intCfg 1 => .rdIntCfg1
    | .intCfg 2 => .rdIntCfg2
    | .intCfg 3 => .rdIntCfg3
    | .intCtl => .rdIntCtl
    | .intSta => .rdIntSta
    | .intDeb => .rdIntDeb
    | .unmapped => .rdUnmapped off

/-- R91: the `WR` row of an offset. -/
def decodeWr (off : Nat) (v : Word) : Instr :=
  if off % 4 ≠ 0 then .wrMisaligned off v
  else match decodeOffset 9 off with
    | .port n k => Instr.wrPort (PortName.ofIndex n) k v
    | .intCfg 0 => .wrIntCfg0 v
    | .intCfg 1 => .wrIntCfg1 v
    | .intCfg 2 => .wrIntCfg2 v
    | .intCfg 3 => .wrIntCfg3 v
    | .intCtl => .wrIntCtl v
    | .intSta => .wrIntSta v
    | .intDeb => .wrIntDeb v
    | .unmapped => .wrUnmapped off v

/-- R84, R91: the row of a byte exchanged with SENS_C. The command rows are those of the default layout: start flag in
bit 7, direction in bit 6, register index in bits 5:0. -/
def decodeXfer (ph : Phases) (b : Byte) : Instr :=
  match ph.cntC with
  | .phase0 =>
    if b.getLsbD 7 then
      if b.getLsbD 6 then .cXferReadCommand (b.extractLsb' 0 6) else .cXferWriteCommand (b.extractLsb' 0 6)
    else .cXferStartFlagClear (b.extractLsb' 0 7)
  | .phase1 => if ph.isRead then .cXferReadData b else .cXferWriteData b
  | .used => .cXferOversized b

/-- R91: the row of a byte sent to SENS_A. -/
def decodeTx (ph : Phases) (b : Byte) : Instr :=
  match ph.cntA with
  | .phase0 => .aTxPointer b
  | .phase1 => .aTxData b
  | .used => .aTxOversized b

/-- R91: the row of a byte read from SENS_A. -/
def decodeRx (ph : Phases) : Instr :=
  match ph.cntA with
  | .phase0 => .aRxFirst
  | .phase1 => .aRxData
  | .used => .aRxOversized

/-- The decoder: total on every presentation. It rejects, by name, a bus access that is not 32 bits wide and a stimulus
on a pin the block does not have; every other operation has its row. -/
def decode (cfg : Params) (ph : Phases) (op : Op) : Except DecodeError Instr :=
  match op with
  | .rd size off => if size = 4 then .ok (decodeRd off) else .error (.accessWidth size)
  | .wr size off v => if size = 4 then .ok (decodeWr off v) else .error (.accessWidth size)
  | .pin n i l => if n < cfg.nPorts ∧ i < cfg.pinCount n then .ok (.pin n i l) else .error .pinOutOfRange
  | .rst => .ok .rst
  | .aSel => .ok .aSel
  | .aDesel => .ok .aDesel
  | .aTx b => .ok (decodeTx ph b)
  | .aRx => .ok (decodeRx ph)
  | .aRst => .ok .aRst
  | .cSel => .ok .cSel
  | .cDesel => .ok .cDesel
  | .cXfer b => .ok (decodeXfer ph b)
  | .cRst => .ok .cRst

/-- The encoder: the operation that each row stands for, its offset from the register map of R75 and R76, its command
byte from R84. -/
def encode (i : Instr) : Op :=
  match i with
  | .rdPaCfg0 => .rd 4 0x000
  | .wrPaCfg0 v => .wr 4 0x000 v
  | .rdPaCfg1 => .rd 4 0x004
  | .wrPaCfg1 v => .wr 4 0x004 v
  | .rdPaCfg2 => .rd 4 0x008
  | .wrPaCfg2 v => .wr 4 0x008 v
  | .rdPaCfg3 => .rd 4 0x00C
  | .wrPaCfg3 v => .wr 4 0x00C v
  | .rdPaDat => .rd 4 0x010
  | .wrPaDat v => .wr 4 0x010 v
  | .rdPaDrv0 => .rd 4 0x014
  | .wrPaDrv0 v => .wr 4 0x014 v
  | .rdPaDrv1 => .rd 4 0x018
  | .wrPaDrv1 v => .wr 4 0x018 v
  | .rdPaPul0 => .rd 4 0x01C
  | .wrPaPul0 v => .wr 4 0x01C v
  | .rdPaPul1 => .rd 4 0x020
  | .wrPaPul1 v => .wr 4 0x020 v
  | .rdPbCfg0 => .rd 4 0x024
  | .wrPbCfg0 v => .wr 4 0x024 v
  | .rdPbCfg1 => .rd 4 0x028
  | .wrPbCfg1 v => .wr 4 0x028 v
  | .rdPbCfg2 => .rd 4 0x02C
  | .wrPbCfg2 v => .wr 4 0x02C v
  | .rdPbCfg3 => .rd 4 0x030
  | .wrPbCfg3 v => .wr 4 0x030 v
  | .rdPbDat => .rd 4 0x034
  | .wrPbDat v => .wr 4 0x034 v
  | .rdPbDrv0 => .rd 4 0x038
  | .wrPbDrv0 v => .wr 4 0x038 v
  | .rdPbDrv1 => .rd 4 0x03C
  | .wrPbDrv1 v => .wr 4 0x03C v
  | .rdPbPul0 => .rd 4 0x040
  | .wrPbPul0 v => .wr 4 0x040 v
  | .rdPbPul1 => .rd 4 0x044
  | .wrPbPul1 v => .wr 4 0x044 v
  | .rdPcCfg0 => .rd 4 0x048
  | .wrPcCfg0 v => .wr 4 0x048 v
  | .rdPcCfg1 => .rd 4 0x04C
  | .wrPcCfg1 v => .wr 4 0x04C v
  | .rdPcCfg2 => .rd 4 0x050
  | .wrPcCfg2 v => .wr 4 0x050 v
  | .rdPcCfg3 => .rd 4 0x054
  | .wrPcCfg3 v => .wr 4 0x054 v
  | .rdPcDat => .rd 4 0x058
  | .wrPcDat v => .wr 4 0x058 v
  | .rdPcDrv0 => .rd 4 0x05C
  | .wrPcDrv0 v => .wr 4 0x05C v
  | .rdPcDrv1 => .rd 4 0x060
  | .wrPcDrv1 v => .wr 4 0x060 v
  | .rdPcPul0 => .rd 4 0x064
  | .wrPcPul0 v => .wr 4 0x064 v
  | .rdPcPul1 => .rd 4 0x068
  | .wrPcPul1 v => .wr 4 0x068 v
  | .rdPdCfg0 => .rd 4 0x06C
  | .wrPdCfg0 v => .wr 4 0x06C v
  | .rdPdCfg1 => .rd 4 0x070
  | .wrPdCfg1 v => .wr 4 0x070 v
  | .rdPdCfg2 => .rd 4 0x074
  | .wrPdCfg2 v => .wr 4 0x074 v
  | .rdPdCfg3 => .rd 4 0x078
  | .wrPdCfg3 v => .wr 4 0x078 v
  | .rdPdDat => .rd 4 0x07C
  | .wrPdDat v => .wr 4 0x07C v
  | .rdPdDrv0 => .rd 4 0x080
  | .wrPdDrv0 v => .wr 4 0x080 v
  | .rdPdDrv1 => .rd 4 0x084
  | .wrPdDrv1 v => .wr 4 0x084 v
  | .rdPdPul0 => .rd 4 0x088
  | .wrPdPul0 v => .wr 4 0x088 v
  | .rdPdPul1 => .rd 4 0x08C
  | .wrPdPul1 v => .wr 4 0x08C v
  | .rdPeCfg0 => .rd 4 0x090
  | .wrPeCfg0 v => .wr 4 0x090 v
  | .rdPeCfg1 => .rd 4 0x094
  | .wrPeCfg1 v => .wr 4 0x094 v
  | .rdPeCfg2 => .rd 4 0x098
  | .wrPeCfg2 v => .wr 4 0x098 v
  | .rdPeCfg3 => .rd 4 0x09C
  | .wrPeCfg3 v => .wr 4 0x09C v
  | .rdPeDat => .rd 4 0x0A0
  | .wrPeDat v => .wr 4 0x0A0 v
  | .rdPeDrv0 => .rd 4 0x0A4
  | .wrPeDrv0 v => .wr 4 0x0A4 v
  | .rdPeDrv1 => .rd 4 0x0A8
  | .wrPeDrv1 v => .wr 4 0x0A8 v
  | .rdPePul0 => .rd 4 0x0AC
  | .wrPePul0 v => .wr 4 0x0AC v
  | .rdPePul1 => .rd 4 0x0B0
  | .wrPePul1 v => .wr 4 0x0B0 v
  | .rdPfCfg0 => .rd 4 0x0B4
  | .wrPfCfg0 v => .wr 4 0x0B4 v
  | .rdPfCfg1 => .rd 4 0x0B8
  | .wrPfCfg1 v => .wr 4 0x0B8 v
  | .rdPfCfg2 => .rd 4 0x0BC
  | .wrPfCfg2 v => .wr 4 0x0BC v
  | .rdPfCfg3 => .rd 4 0x0C0
  | .wrPfCfg3 v => .wr 4 0x0C0 v
  | .rdPfDat => .rd 4 0x0C4
  | .wrPfDat v => .wr 4 0x0C4 v
  | .rdPfDrv0 => .rd 4 0x0C8
  | .wrPfDrv0 v => .wr 4 0x0C8 v
  | .rdPfDrv1 => .rd 4 0x0CC
  | .wrPfDrv1 v => .wr 4 0x0CC v
  | .rdPfPul0 => .rd 4 0x0D0
  | .wrPfPul0 v => .wr 4 0x0D0 v
  | .rdPfPul1 => .rd 4 0x0D4
  | .wrPfPul1 v => .wr 4 0x0D4 v
  | .rdPgCfg0 => .rd 4 0x0D8
  | .wrPgCfg0 v => .wr 4 0x0D8 v
  | .rdPgCfg1 => .rd 4 0x0DC
  | .wrPgCfg1 v => .wr 4 0x0DC v
  | .rdPgCfg2 => .rd 4 0x0E0
  | .wrPgCfg2 v => .wr 4 0x0E0 v
  | .rdPgCfg3 => .rd 4 0x0E4
  | .wrPgCfg3 v => .wr 4 0x0E4 v
  | .rdPgDat => .rd 4 0x0E8
  | .wrPgDat v => .wr 4 0x0E8 v
  | .rdPgDrv0 => .rd 4 0x0EC
  | .wrPgDrv0 v => .wr 4 0x0EC v
  | .rdPgDrv1 => .rd 4 0x0F0
  | .wrPgDrv1 v => .wr 4 0x0F0 v
  | .rdPgPul0 => .rd 4 0x0F4
  | .wrPgPul0 v => .wr 4 0x0F4 v
  | .rdPgPul1 => .rd 4 0x0F8
  | .wrPgPul1 v => .wr 4 0x0F8 v
  | .rdPhCfg0 => .rd 4 0x0FC
  | .wrPhCfg0 v => .wr 4 0x0FC v
  | .rdPhCfg1 => .rd 4 0x100
  | .wrPhCfg1 v => .wr 4 0x100 v
  | .rdPhCfg2 => .rd 4 0x104
  | .wrPhCfg2 v => .wr 4 0x104 v
  | .rdPhCfg3 => .rd 4 0x108
  | .wrPhCfg3 v => .wr 4 0x108 v
  | .rdPhDat => .rd 4 0x10C
  | .wrPhDat v => .wr 4 0x10C v
  | .rdPhDrv0 => .rd 4 0x110
  | .wrPhDrv0 v => .wr 4 0x110 v
  | .rdPhDrv1 => .rd 4 0x114
  | .wrPhDrv1 v => .wr 4 0x114 v
  | .rdPhPul0 => .rd 4 0x118
  | .wrPhPul0 v => .wr 4 0x118 v
  | .rdPhPul1 => .rd 4 0x11C
  | .wrPhPul1 v => .wr 4 0x11C v
  | .rdPiCfg0 => .rd 4 0x120
  | .wrPiCfg0 v => .wr 4 0x120 v
  | .rdPiCfg1 => .rd 4 0x124
  | .wrPiCfg1 v => .wr 4 0x124 v
  | .rdPiCfg2 => .rd 4 0x128
  | .wrPiCfg2 v => .wr 4 0x128 v
  | .rdPiCfg3 => .rd 4 0x12C
  | .wrPiCfg3 v => .wr 4 0x12C v
  | .rdPiDat => .rd 4 0x130
  | .wrPiDat v => .wr 4 0x130 v
  | .rdPiDrv0 => .rd 4 0x134
  | .wrPiDrv0 v => .wr 4 0x134 v
  | .rdPiDrv1 => .rd 4 0x138
  | .wrPiDrv1 v => .wr 4 0x138 v
  | .rdPiPul0 => .rd 4 0x13C
  | .wrPiPul0 v => .wr 4 0x13C v
  | .rdPiPul1 => .rd 4 0x140
  | .wrPiPul1 v => .wr 4 0x140 v
  | .rdIntCfg0 => .rd 4 0x200
  | .wrIntCfg0 v => .wr 4 0x200 v
  | .rdIntCfg1 => .rd 4 0x204
  | .wrIntCfg1 v => .wr 4 0x204 v
  | .rdIntCfg2 => .rd 4 0x208
  | .wrIntCfg2 v => .wr 4 0x208 v
  | .rdIntCfg3 => .rd 4 0x20C
  | .wrIntCfg3 v => .wr 4 0x20C v
  | .rdIntCtl => .rd 4 0x210
  | .wrIntCtl v => .wr 4 0x210 v
  | .rdIntSta => .rd 4 0x214
  | .wrIntSta v => .wr 4 0x214 v
  | .rdIntDeb => .rd 4 0x218
  | .wrIntDeb v => .wr 4 0x218 v
  | .rdMisaligned off => .rd 4 off
  | .rdUnmapped off => .rd 4 off
  | .wrMisaligned off v => .wr 4 off v
  | .wrUnmapped off v => .wr 4 off v
  | .pin n j l => .pin n j l
  | .rst => .rst
  | .aSel => .aSel
  | .aDesel => .aDesel
  | .aRst => .aRst
  | .cSel => .cSel
  | .cDesel => .cDesel
  | .cRst => .cRst
  | .aTxPointer b => .aTx b
  | .aTxData b => .aTx b
  | .aTxOversized b => .aTx b
  | .aRxFirst => .aRx
  | .aRxData => .aRx
  | .aRxOversized => .aRx
  | .cXferReadCommand r => .cXfer (0b11#2 ++ r)
  | .cXferWriteCommand r => .cXfer (0b10#2 ++ r)
  | .cXferStartFlagClear x => .cXfer (0b0#1 ++ x)
  | .cXferReadData d => .cXfer d
  | .cXferWriteData d => .cXfer d
  | .cXferOversized b => .cXfer b

/-- The operation that a word of spec/opcode_table.json stands for (log entry 2). The table numbers the bits of an
operand and has none that name the operation: no bit is a presentation without bits, `RST`; up to 8 bits are a byte
exchanged with SENS_C; up to 32 bits are the byte offset of `RD`; more are the offset of `WR` with its value above. -/
def tableOp (nbits w : Nat) : Op :=
  if nbits = 0 then .rst
  else if nbits ≤ 8 then .cXfer (BitVec.ofNat 8 w)
  else if nbits ≤ 32 then .rd 4 (w % 2 ^ 32)
  else .wr 4 (w % 2 ^ 32) (BitVec.ofNat 32 (w / 2 ^ 32))

/-- The row that the decoder reads from a word of the table, in the state of a frame start (R189: cnt = 0, ptr = 0). -/
def decodeTableWord (nbits w : Nat) : Option Instr :=
  match decode Params.ref ⟨.phase0, .phase0, false⟩ (tableOp nbits w) with
  | .ok i => some i
  | .error _ => none

end Sys2Proof
end

