-- ==== Sys2Proof/Machine/State.lean ====
section
/-! DEFINITION. Everything the block remembers (10_state.md R20 to R47), as plain data, the reasons a step can stop, and
the state after reset. The fields of the model's own (parameters, answers, presented operations, draw counters) are named
as such: the spec gives them as arguments, outputs and inputs of an operation, not as state (R42). -/

namespace Sys2Proof.Machine

/-- R236: the kinds of diagnostic record, with what R237 asks a record of a bus access to hold. -/
inductive Diag where
  /-- R237: `RD` or `WR` at a misaligned or unmapped offset; `v` is the value of a write. -/
  | guestError (off : Nat) (v : Option Word)
  /-- R238: a class that the source names and no operation of this block raises. -/
  | unimplemented
  /-- R239: a data byte written to a sensor register other than CTRL. -/
  | writeRejected
  /-- R240: a data byte read from a sensor register that does not exist. -/
  | readNonexistent
  /-- R241: a third or later byte of a frame. -/
  | oversized
deriving DecidableEq, Repr

/-- R70: what an operation returns. -/
inductive Ret where
  | nothing
  | word (w : Word)
  | byte (b : Byte)
deriving DecidableEq, Repr

/-- The outputs of one operation (R18): its return value and the diagnostics it emitted (R243: at most one). -/
structure Reply where
  value : Ret
  diags : List Diag
deriving DecidableEq, Repr

/-- The state of GPIO (R45). -/
structure Gpio where
  /-- R20, R21: the register file, word-indexed: the nine words of port n at 9n to 9n+8, INT_CFG0..3 at 128 to 131,
  INT_CTL at 132, INT_STA at 133, INT_DEB at 134. Words 9N to 127 are no registers and stay 0. -/
  x : Vector Word 135
  /-- R30: the output line latches, one word per port: bit i of word n is out[n][i]. -/
  out : Vector Word 14
  /-- R31: the aggregate interrupt line. -/
  irq : Bool
deriving DecidableEq, Repr

/-- The state of one sensor (R45). -/
structure Sensor where
  /-- R36: s[0], ID. -/
  id : Byte
  /-- R35: s[1], CTRL. -/
  ctrl : Byte
  /-- R37: s[2], TEMPERATURE. -/
  temp : Byte
  /-- R38: the cursor: the pointer byte of SENS_A, the command byte of SENS_C. -/
  ptr : Byte
  /-- R39: the byte counter. -/
  cnt : Phase
  /-- The model's own: how many draws the sensor has made, which picks the next free value (log entry 4). -/
  draws : Nat
deriving DecidableEq, Repr

/-- The whole block: three devices that share nothing (R1), beside the model's own fields. -/
structure State where
  /-- The model's own: the parameters fixed at construction, which no operation changes (R9, log entry 1). -/
  cfg : Params
  gpio : Gpio
  sensA : Sensor
  sensC : Sensor
  /-- The model's own: what the latest operation answered (R18, log entry 5). -/
  reply : Reply
  /-- The model's own: the operations that the agents have presented and the block has not yet done, in the one total
  order of R62 (log entry 3). -/
  pending : List Op
deriving DecidableEq, Repr

/-- R165, R235: nothing in the block is fatal and every error path goes on, so no step ends in a fault. -/
inductive Fault where
deriving DecidableEq, Repr

/-- Why an operation gets no step: the points on which the spec declines to give a meaning (R242), each safe: the model
stops where the hardware may go on. -/
inductive Refusal where
  /-- Raised by an arm of `exec` for an instruction without a meaning; no arm raises it. Safe. -/
  | notModelled (mnemonic : String)
  /-- R56: raised by `step` for a GPIO bus access that is not 32 bits wide. Safe. -/
  | accessWidth (size : Nat)
  /-- R72: raised by `step` and PIN for a pin the block does not have. Safe. -/
  | pinOutOfRange
  /-- R204: raised by A.RX as the first byte of a frame. Safe. -/
  | readBeforePointer
  /-- R219: raised by C.XFER for a command byte whose start flag is clear. Safe. -/
  | startFlagClear
  /-- 93_implementation_defined.md U28: raised by C.XFER in the unreachable state cnt = 1 with the start flag clear in
  ptr (R225). Safe. -/
  | dataWithoutStart
deriving DecidableEq, Repr

/-- What a meaning answers. -/
abbrev Result := Host.Outcome State Fault Refusal

/-- R43, R170: GPIO after reset: every word 0, every output line low, the interrupt line low. -/
def Gpio.reset : Gpio :=
  { x := Vector.replicate 135 0, out := Vector.replicate 14 0, irq := false }

/-- R44, R267: a sensor after reset. The value of TEMPERATURE is the model's (R188 allows 0x00; log entry 6). -/
def Sensor.atReset (p : SensorParams) : Sensor :=
  { id := p.idConst, ctrl := 0x00, temp := 0x00, ptr := 0x00, cnt := .phase0, draws := 0 }

/-- R171, R188, R269: the block starts in the state that the three resets produce, with nothing answered yet and no
operation presented (R268: it waits for operations). -/
def State.reset : State :=
  { cfg     := Params.ref
    gpio    := Gpio.reset
    sensA   := Sensor.atReset Params.ref.sensA
    sensC   := Sensor.atReset Params.ref.sensC
    reply   := { value := .nothing, diags := [] }
    pending := [] }

end Sys2Proof.Machine
end

