-- ==== Sys2Proof/Machine/Operands.lean ====
section
/-! DEFINITION. The word indices of the register file (10_state.md R21), the access to its words and to the output
latches, the fields inside words and bytes (30_encoding.md R77 to R85), and the write masks of the port words
(40_gpio_port_bank.md R101 to R107). -/

namespace Sys2Proof.Machine

/-- R16: ones(k), the word 2^k - 1, a power and no 32-bit shift, so that ones(32) is all ones (R114). -/
def ones (k : Nat) : Word := BitVec.ofNat 32 (2 ^ k - 1)

/-- The word whose bit i is b and whose other bits are those of w. -/
def putBit (w : Word) (i : Nat) (b : Bool) : Word :=
  (w &&& ~~~((1 : Word) <<< i)) ||| ((if b then (1 : Word) else 0) <<< i)

/-- R21: word index of a register of port n. -/
def portIdx (n : Nat) (k : PortReg) : Nat := 9 * n + k.index

/-- R21: word index of CFG(n, j), j = 0..3. -/
def cfgIdx (n j : Nat) : Nat := 9 * n + j

/-- R21: word index of DAT(n). -/
def datIdx (n : Nat) : Nat := 9 * n + 4

/-- R21: word index of DRV(n, k), k = 0, 1. -/
def drvIdx (n k : Nat) : Nat := 9 * n + 5 + k

/-- R21: word index of PUL(n, k), k = 0, 1. -/
def pulIdx (n k : Nat) : Nat := 9 * n + 7 + k

/-- R21: word index of INT_CFG(k), k = 0..3. -/
def intCfgIdx (k : Nat) : Nat := 128 + k

/-- R21: word index of INT_CTL. -/
def intCtlIdx : Nat := 132

/-- R21: word index of INT_STA. -/
def intStaIdx : Nat := 133

/-- R21: word index of INT_DEB. -/
def intDebIdx : Nat := 134

/-- R17: x[w], a read of one word; an index without storage reads as zero (R20). Words are read and written through the
vector's list, which Lean's kernel evaluates fast. -/
def Gpio.word (g : Gpio) (w : Nat) : Word := g.x.toList.getD w 0

/-- R17: x[w] <- v, a write of one word; an index without storage ignores it (R20). -/
def Gpio.setWord (g : Gpio) (w : Nat) (v : Word) : Gpio := { g with x := ⟨⟨g.x.toList.set w v⟩, by simp⟩ }

/-- R30: out[n][i], the level on the output line of a pin. -/
def Gpio.line (g : Gpio) (n i : Nat) : Bool := (g.out.toList.getD n 0).getLsbD i

/-- R30: out[n][i] <- b. -/
def Gpio.setLine (g : Gpio) (n i : Nat) (b : Bool) : Gpio :=
  { g with out := ⟨⟨g.out.toList.set n (putBit (g.out.toList.getD n 0) i b)⟩, by simp⟩ }

/-- R77: cfgf(n, i), the 4-bit configuration field of a pin. -/
def Gpio.cfgField (g : Gpio) (n i : Nat) : BitVec 4 := (g.word (cfgIdx n (i / 8))).extractLsb' (4 * (i % 8)) 4

/-- R78: dat(n, i), the stored level of a pin. -/
def Gpio.dat (g : Gpio) (n i : Nat) : Bool := (g.word (datIdx n)).getLsbD i

/-- R125: drive(n, i), the drive strength of a pin, which no rule reads. -/
def Gpio.drive (g : Gpio) (n i : Nat) : BitVec 2 := (g.word (drvIdx n (i / 16))).extractLsb' (2 * (i % 16)) 2

/-- R126: pull(n, i), the pull setting of a pin, which no rule reads. -/
def Gpio.pull (g : Gpio) (n i : Nat) : BitVec 2 := (g.word (pulIdx n (i / 16))).extractLsb' (2 * (i % 16)) 2

/-- R121: the pin is configured as output. -/
def Gpio.isOutput (g : Gpio) (n i : Nat) : Bool := (g.cfgField n i &&& 7) == 1

/-- R122: the pin is configured as input. -/
def Gpio.isInput (g : Gpio) (n i : Nat) : Bool := (g.cfgField n i &&& 7) == 0

/-- R123: the pin's direction code is reserved. -/
def Gpio.isReserved (g : Gpio) (n i : Nat) : Bool := decide (2 ≤ (g.cfgField n i &&& 7).toNat)

/-- R136: mode(L), the trigger mode of interrupt line L. -/
def Gpio.mode (g : Gpio) (l : Fin 32) : BitVec 3 :=
  (g.word (intCfgIdx (l.val / 8))).extractLsb' (4 * (l.val % 8)) 3

/-- R101 to R104: the fixed pattern 0x77777777, which keeps the low 3 bits of each configuration field. -/
def cfgPattern : Word := 0x77777777

/-- R101 to R104: the mask of CFG(n, j) for capacity p; clamp(p - 8j, 0, 8) on natural numbers is the truncated
difference, capped at 8. -/
def maskCfg (j p : Nat) : Word := ones (4 * min (p - 8 * j) 8) &&& cfgPattern

/-- R105: the mask of DAT. -/
def maskDat (p : Nat) : Word := ones p

/-- R106, R107: the mask of DRV(n, k) and PUL(n, k). -/
def maskDrvPul (k p : Nat) : Word := ones (2 * min (p - 16 * k) 16)

/-- The write mask of a port register (R74's last column). -/
def portMask (k : PortReg) (p : Nat) : Word :=
  match k with
  | .cfg0 => maskCfg 0 p
  | .cfg1 => maskCfg 1 p
  | .cfg2 => maskCfg 2 p
  | .cfg3 => maskCfg 3 p
  | .dat  => maskDat p
  | .drv0 => maskDrvPul 0 p
  | .drv1 => maskDrvPul 1 p
  | .pul0 => maskDrvPul 0 p
  | .pul1 => maskDrvPul 1 p

/-- R13, R84: the default command layout: bit 7 start flag, bit 6 direction (1 read), bits 5:0 register index. -/
def defaultCommand (c : Byte) : CmdFields :=
  { start := c.getLsbD 7, isRead := c.getLsbD 6, reg := (c.extractLsb' 0 6).toNat }

/-- R217: cmd_start, cmd_is_read and cmd_reg of a command byte under the block's layout. -/
def commandFields (cfg : Params) (c : Byte) : CmdFields := (cfg.layout.lookup c).getD (defaultCommand c)

/-- R91: what of the state selects among the rows of a byte operation; the direction is decoded from ptr (R216). -/
def State.phases (s : State) : Phases :=
  { cntA := s.sensA.cnt, cntC := s.sensC.cnt, isRead := (commandFields s.cfg s.sensC.ptr).isRead }

end Sys2Proof.Machine
end

