-- ==== Sys2Proof/Machine/Flags.lean ====
section
/-! DEFINITION. The block's status flags (10_state.md R25): the sticky bits of INT_STA, the aggregate line irq, and the
output line latches, each computed as 42_gpio_irq_engine.md and 41_gpio_pin_decoder.md say. There are no condition codes
and no arithmetic flags. -/

namespace Sys2Proof.Machine

/-- R139: the firing condition of a trigger mode. -/
def fire (m : BitVec 3) (prior new : Bool) : Bool :=
  match m.toNat with
  | 0 => !prior && new
  | 1 => prior && !new
  | 2 => new
  | 3 => !new
  | 4 => prior != new
  | _ => false

/-- R140: setting a status bit, a sticky OR. -/
def Gpio.setStatus (g : Gpio) (l : Fin 32) : Gpio :=
  g.setWord intStaIdx (g.word intStaIdx ||| ((1 : Word) <<< l.val))

/-- R151: clearing the status bits written as 1. -/
def Gpio.clearStatus (g : Gpio) (v : Word) : Gpio := g.setWord intStaIdx (g.word intStaIdx &&& ~~~v)

/-- R143: the level of the aggregate interrupt line. -/
def Gpio.aggregate (g : Gpio) : Bool := (g.word intCtlIdx &&& g.word intStaIdx) != 0

/-- R143: update_irq. -/
def Gpio.updateIrq (g : Gpio) : Gpio := { g with irq := g.aggregate }

/-- R127: drive_output on one pin. -/
def Gpio.driveOutput (g : Gpio) (n i : Nat) : Gpio :=
  if g.isOutput n i then g.setLine n i (g.dat n i)
  else if g.isInput n i then g.setLine n i false
  else g

end Sys2Proof.Machine
end

