-- ==== Sys2Proof/Machine/Ops.lean ====
section
/-! DEFINITION. The shared operations: the trigger engine, the GPIO bus access, the pin stimulus, the resets, and the
sensors' byte transfers, each once, for the meanings to call. The block takes no exception and has none to return from
(60_exceptions.md R248, R249): what stands here in its place is the emission of a diagnostic, `State.answer`, which never
stops an operation (R235), and the interrupt line, `Gpio.updateIrq`. -/

namespace Sys2Proof.Machine

/-- The end of an operation on the block: what it returned and the diagnostics it raised (R17, R18). -/
def State.answer (s : State) (value : Ret) (diags : List Diag) : State :=
  { s with reply := { value := value, diags := diags } }

/-- The state with another GPIO. -/
def State.setGpio (s : State) (g : Gpio) : State := { s with gpio := g }

/-- The state with another SENS_A. -/
def State.setSensA (s : State) (d : Sensor) : State := { s with sensA := d }

/-- The state with another SENS_C. -/
def State.setSensC (s : State) (d : Sensor) : State := { s with sensC := d }

/-- R138: eval_pin, the evaluation of one pin. -/
def Gpio.evalPin (cfg : Params) (n i : Nat) (prior new : Bool) (g : Gpio) : Gpio :=
  match cfg.irqLineOf n i with
  | none => g
  | some l =>
    if g.isInput n i then
      if fire (g.mode l) prior new then g.setStatus l else g
    else g

/-- R141: eval_port, with each pin's stored bit as previous and as new level, in pin order. -/
def Gpio.evalPort (cfg : Params) (n : Nat) (g : Gpio) : Gpio :=
  (List.range (cfg.pinCount n)).foldl (fun g i => Gpio.evalPin cfg n i (g.dat n i) (g.dat n i) g) g

/-- R144: eval_all, in port order. -/
def Gpio.evalAll (cfg : Params) (g : Gpio) : Gpio :=
  (List.range cfg.nPorts).foldl (fun g n => Gpio.evalPort cfg n g) g

/-- R128: update_outputs, in pin order. -/
def Gpio.updateOutputs (cfg : Params) (n : Nat) (g : Gpio) : Gpio :=
  (List.range (cfg.pinCount n)).foldl (fun g i => g.driveOutput n i) g

/-- R109: the write of a port word: store, drive the outputs, evaluate the port, recompute irq. -/
def Gpio.writePort (cfg : Params) (n : Nat) (k : PortReg) (w : Nat) (v : Word) (g : Gpio) : Gpio :=
  (Gpio.evalPort cfg n
    (Gpio.updateOutputs cfg n (g.setWord w (v &&& portMask k (cfg.pinCount n))))).updateIrq

/-- R149, R150, R152: the write of INT_CFG(k), INT_DEB or INT_CTL: store, evaluate every port, recompute irq. -/
def Gpio.writeGlobal (cfg : Params) (w : Nat) (v : Word) (g : Gpio) : Gpio :=
  (Gpio.evalAll cfg (g.setWord w v)).updateIrq

/-- R151: the write of INT_STA. -/
def Gpio.writeStatus (cfg : Params) (v : Word) (g : Gpio) : Gpio :=
  (if cfg.w1cReeval then Gpio.evalAll cfg (g.clearStatus v) else g.clearStatus v).updateIrq

/-- R166: setPin: evaluate the one pin with its stored bit as previous level, store the new level, recompute irq. -/
def Gpio.setPin (cfg : Params) (n i : Nat) (l : Bool) (g : Gpio) : Gpio :=
  let g' := Gpio.evalPin cfg n i (g.dat n i) l g
  (g'.setWord (datIdx n) (putBit (g'.word (datIdx n)) i l)).updateIrq

/-- R161: `RD off`. -/
def readRegister (off : Nat) (s : State) : Result :=
  match decodeOffset s.cfg.nPorts off with
  | .unmapped => .next (s.answer (.word 0x00000000) [.guestError off none])
  | _ => .next (s.answer (.word (s.gpio.word (off / 4))) [])

/-- R162: `WR off, v`. -/
def writeRegister (off : Nat) (v : Word) (s : State) : Result :=
  match decodeOffset s.cfg.nPorts off with
  | .port n k => .next ((s.setGpio (s.gpio.writePort s.cfg n k (off / 4) v)).answer .nothing [])
  | .intCfg k => .next ((s.setGpio (s.gpio.writeGlobal s.cfg (intCfgIdx k.val) v)).answer .nothing [])
  | .intCtl => .next ((s.setGpio (s.gpio.writeGlobal s.cfg intCtlIdx v)).answer .nothing [])
  | .intSta => .next ((s.setGpio (s.gpio.writeStatus s.cfg v)).answer .nothing [])
  | .intDeb => .next ((s.setGpio (s.gpio.writeGlobal s.cfg intDebIdx v)).answer .nothing [])
  | .unmapped => .next (s.answer .nothing [.guestError off (some v)])

/-- R166: `PIN n, i, l`, refused outside its precondition. -/
def stimulatePin (n i : Nat) (l : Bool) (s : State) : Result :=
  if n < s.cfg.nPorts ∧ i < s.cfg.pinCount n then
    .next ((s.setGpio (s.gpio.setPin s.cfg n i l)).answer .nothing [])
  else .refused .pinOutOfRange

/-- R170: `RST`. -/
def resetGpio (s : State) : Result := .next ((s.setGpio Gpio.reset).answer .nothing [])

/-- What a byte operation leaves: the device, the byte it returned, the diagnostics it raised. -/
structure ByteResult where
  dev   : Sensor
  byte  : Byte
  diags : List Diag
deriving DecidableEq, Repr

/-- R17: draw(all bytes), a free value; the sensor counts its draws. -/
def Sensor.drawByte (id : SensorId) (d : Sensor) (diags : List Diag) : ByteResult :=
  { dev := { d with draws := d.draws + 1 }, byte := Config.freeByte id d.draws, diags := diags }

/-- R17: draw(MEAS_SET), a free member of the set. -/
def measurement (id : SensorId) (p : SensorParams) (k : Nat) : Byte :=
  p.measSet.getD (Config.freeIndex id k % p.measSet.length) p.measHead

/-- R186: refresh, the rewriting of TEMPERATURE. -/
def Sensor.refresh (id : SensorId) (p : SensorParams) (d : Sensor) : Sensor :=
  if d.ctrl.getLsbD 0 then { d with temp := measurement id p d.draws, draws := d.draws + 1 }
  else { d with temp := 0xFF }

/-- R184: reg_write, the data byte written to register r. -/
def Sensor.regWrite (p : SensorParams) (r : Nat) (b : Byte) (d : Sensor) : Sensor × List Diag :=
  if r = 1 then ({ d with ctrl := b &&& p.ctrlWMask }, [])
  else (d, [.writeRejected])

/-- R185: reg_read, the data byte read from register r. -/
def Sensor.regRead (id : SensorId) (r : Nat) (d : Sensor) : ByteResult :=
  if r = 0 then { dev := d, byte := d.id, diags := [] }
  else if r = 1 then { dev := d, byte := d.ctrl, diags := [] }
  else if r = 2 then { dev := d, byte := d.temp, diags := [] }
  else d.drawByte id [.readNonexistent]

/-- R188: the reset of a sensor; TEMPERATURE after it is not given, a free value. -/
def Sensor.reset (id : SensorId) (p : SensorParams) (d : Sensor) : Sensor :=
  { id := p.idConst, ctrl := 0x00, temp := Config.freeByte id d.draws, ptr := 0x00, cnt := .phase0,
    draws := d.draws + 1 }

/-- R189: a frame start: the cursor and the counter, nothing else. -/
def Sensor.frameStart (d : Sensor) : Sensor := { d with ptr := 0x00, cnt := .phase0 }

/-- R201, R202, R203: a byte to SENS_A. -/
def addressedTx (p : SensorParams) (b : Byte) (d : Sensor) : Sensor × List Diag :=
  match d.cnt with
  | .phase0 => ({ d with ptr := b, cnt := .phase1 }, [])
  | .phase1 =>
    let r := d.regWrite p d.ptr.toNat b
    ({ r.1 with cnt := .used }, r.2)
  | .used => (d, [.oversized])

/-- R204, R205, R206: a byte from SENS_A; none where the spec refuses (no pointer byte yet). -/
def addressedRx (p : SensorParams) (d : Sensor) : Option ByteResult :=
  match d.cnt with
  | .phase0 => none
  | .phase1 =>
    let d' := if d.ptr.toNat = 2 then d.refresh .a p else d
    let r := d'.regRead .a d.ptr.toNat
    some { r with dev := { r.dev with cnt := .used } }
  | .used => some (d.drawByte .a [.oversized])

/-- R218 to R222: a byte exchanged with SENS_C. -/
def commandXfer (cfg : Params) (b : Byte) (d : Sensor) : Except Refusal ByteResult :=
  match d.cnt with
  | .phase0 =>
    let c := commandFields cfg b
    if c.start then
      let d' : Sensor := { d with ptr := b }
      let d'' := if c.isRead ∧ c.reg = 2 then d'.refresh .c cfg.sensC else d'
      .ok (Sensor.drawByte .c { d'' with cnt := .phase1 } [])
    else .error .startFlagClear
  | .phase1 =>
    let c := commandFields cfg d.ptr
    if c.start then
      if c.isRead then
        let r := d.regRead .c c.reg
        .ok { r with dev := { r.dev with cnt := .used } }
      else
        let r := d.regWrite cfg.sensC c.reg b
        .ok (Sensor.drawByte .c { r.1 with cnt := .used } r.2)
    else .error .dataWithoutStart
  | .used => .ok (d.drawByte .c [.oversized])

/-- `A.TX b` on the block. -/
def sendA (b : Byte) (s : State) : Result :=
  let r := addressedTx s.cfg.sensA b s.sensA
  .next ((s.setSensA r.1).answer .nothing r.2)

/-- `A.RX` on the block. -/
def receiveA (s : State) : Result :=
  match addressedRx s.cfg.sensA s.sensA with
  | some r => .next ((s.setSensA r.dev).answer (.byte r.byte) r.diags)
  | none => .refused .readBeforePointer

/-- `C.XFER b` on the block. -/
def exchangeC (b : Byte) (s : State) : Result :=
  match commandXfer s.cfg b s.sensC with
  | .ok r => .next ((s.setSensC r.dev).answer (.byte r.byte) r.diags)
  | .error e => .refused e

end Sys2Proof.Machine
end

