-- ==== Sys2Proof/Machine/Control.lean ====
section
/-! DEFINITION. The meanings of the pin stimulus and of the resets, frame starts and frame ends of the three devices
(43_gpio_controller.md R166, R170; 44_sensor_common.md R188, R189, R191). -/

namespace Sys2Proof.Machine

/-- R166: PIN n, i, l. -/
def execPin (n i : Nat) (l : Bool) (s : State) : Result := stimulatePin n i l s

/-- R170: RST. -/
def execRst (s : State) : Result := resetGpio s

/-- R189: A.SEL, a frame start. -/
def execASel (s : State) : Result := .next ((s.setSensA s.sensA.frameStart).answer .nothing [])

/-- R191: A.DESEL, a frame end, which changes nothing in the device. -/
def execADesel (s : State) : Result := .next (s.answer .nothing [])

/-- R188: A.RST. -/
def execARst (s : State) : Result :=
  .next ((s.setSensA (Sensor.reset .a s.cfg.sensA s.sensA)).answer .nothing [])

/-- R189: C.SEL, a frame start. -/
def execCSel (s : State) : Result := .next ((s.setSensC s.sensC.frameStart).answer .nothing [])

/-- R191: C.DESEL, a frame end, which changes nothing in the device. -/
def execCDesel (s : State) : Result := .next (s.answer .nothing [])

/-- R188: C.RST. -/
def execCRst (s : State) : Result :=
  .next ((s.setSensC (Sensor.reset .c s.cfg.sensC s.sensC)).answer .nothing [])

end Sys2Proof.Machine
end

