-- ==== Sys2Proof/Machine/Global.lean ====
section
/-! DEFINITION. The meanings of `RD` and `WR` at the global interrupt registers (42_gpio_irq_engine.md R145 to R152) and of
the two catch-all rows, misaligned and unmapped (43_gpio_controller.md R163, R164). -/

namespace Sys2Proof.Machine

/-- R145: RD INT_CFG0. -/
def execRdIntCfg0 (s : State) : Result := readRegister 0x200 s

/-- R149: WR INT_CFG0. -/
def execWrIntCfg0 (v : Word) (s : State) : Result := writeRegister 0x200 v s

/-- R145: RD INT_CFG1. -/
def execRdIntCfg1 (s : State) : Result := readRegister 0x204 s

/-- R149: WR INT_CFG1. -/
def execWrIntCfg1 (v : Word) (s : State) : Result := writeRegister 0x204 v s

/-- R145: RD INT_CFG2. -/
def execRdIntCfg2 (s : State) : Result := readRegister 0x208 s

/-- R149: WR INT_CFG2. -/
def execWrIntCfg2 (v : Word) (s : State) : Result := writeRegister 0x208 v s

/-- R145: RD INT_CFG3. -/
def execRdIntCfg3 (s : State) : Result := readRegister 0x20C s

/-- R149: WR INT_CFG3. -/
def execWrIntCfg3 (v : Word) (s : State) : Result := writeRegister 0x20C v s

/-- R146: RD INT_CTL. -/
def execRdIntCtl (s : State) : Result := readRegister 0x210 s

/-- R152: WR INT_CTL. -/
def execWrIntCtl (v : Word) (s : State) : Result := writeRegister 0x210 v s

/-- R147: RD INT_STA. -/
def execRdIntSta (s : State) : Result := readRegister 0x214 s

/-- R151: WR INT_STA. -/
def execWrIntSta (v : Word) (s : State) : Result := writeRegister 0x214 v s

/-- R148: RD INT_DEB. -/
def execRdIntDeb (s : State) : Result := readRegister 0x218 s

/-- R150: WR INT_DEB. -/
def execWrIntDeb (v : Word) (s : State) : Result := writeRegister 0x218 v s

/-- R163: RD at a misaligned offset. -/
def execRdMisaligned (off : Nat) (s : State) : Result := readRegister off s

/-- R164: WR at a misaligned offset. -/
def execWrMisaligned (off : Nat) (v : Word) (s : State) : Result := writeRegister off v s

/-- R163: RD at an aligned offset that has no row of its own. -/
def execRdUnmapped (off : Nat) (s : State) : Result := readRegister off s

/-- R164: WR at an aligned offset that has no row of its own. -/
def execWrUnmapped (off : Nat) (v : Word) (s : State) : Result := writeRegister off v s

end Sys2Proof.Machine
end

