-- ==== Sys2Proof/Machine/PortRead.lean ====
section
/-! DEFINITION. The meanings of `RD` at a port register (40_gpio_port_bank.md R108): 81 offsets of one operation, R161. -/

namespace Sys2Proof.Machine

/-- R108: RD PA.CFG0. -/
def execRdPaCfg0 (s : State) : Result := readRegister 0x000 s

/-- R108: RD PA.CFG1. -/
def execRdPaCfg1 (s : State) : Result := readRegister 0x004 s

/-- R108: RD PA.CFG2. -/
def execRdPaCfg2 (s : State) : Result := readRegister 0x008 s

/-- R108: RD PA.CFG3. -/
def execRdPaCfg3 (s : State) : Result := readRegister 0x00C s

/-- R108: RD PA.DAT. -/
def execRdPaDat (s : State) : Result := readRegister 0x010 s

/-- R108: RD PA.DRV0. -/
def execRdPaDrv0 (s : State) : Result := readRegister 0x014 s

/-- R108: RD PA.DRV1. -/
def execRdPaDrv1 (s : State) : Result := readRegister 0x018 s

/-- R108: RD PA.PUL0. -/
def execRdPaPul0 (s : State) : Result := readRegister 0x01C s

/-- R108: RD PA.PUL1. -/
def execRdPaPul1 (s : State) : Result := readRegister 0x020 s

/-- R108: RD PB.CFG0. -/
def execRdPbCfg0 (s : State) : Result := readRegister 0x024 s

/-- R108: RD PB.CFG1. -/
def execRdPbCfg1 (s : State) : Result := readRegister 0x028 s

/-- R108: RD PB.CFG2. -/
def execRdPbCfg2 (s : State) : Result := readRegister 0x02C s

/-- R108: RD PB.CFG3. -/
def execRdPbCfg3 (s : State) : Result := readRegister 0x030 s

/-- R108: RD PB.DAT. -/
def execRdPbDat (s : State) : Result := readRegister 0x034 s

/-- R108: RD PB.DRV0. -/
def execRdPbDrv0 (s : State) : Result := readRegister 0x038 s

/-- R108: RD PB.DRV1. -/
def execRdPbDrv1 (s : State) : Result := readRegister 0x03C s

/-- R108: RD PB.PUL0. -/
def execRdPbPul0 (s : State) : Result := readRegister 0x040 s

/-- R108: RD PB.PUL1. -/
def execRdPbPul1 (s : State) : Result := readRegister 0x044 s

/-- R108: RD PC.CFG0. -/
def execRdPcCfg0 (s : State) : Result := readRegister 0x048 s

/-- R108: RD PC.CFG1. -/
def execRdPcCfg1 (s : State) : Result := readRegister 0x04C s

/-- R108: RD PC.CFG2. -/
def execRdPcCfg2 (s : State) : Result := readRegister 0x050 s

/-- R108: RD PC.CFG3. -/
def execRdPcCfg3 (s : State) : Result := readRegister 0x054 s

/-- R108: RD PC.DAT. -/
def execRdPcDat (s : State) : Result := readRegister 0x058 s

/-- R108: RD PC.DRV0. -/
def execRdPcDrv0 (s : State) : Result := readRegister 0x05C s

/-- R108: RD PC.DRV1. -/
def execRdPcDrv1 (s : State) : Result := readRegister 0x060 s

/-- R108: RD PC.PUL0. -/
def execRdPcPul0 (s : State) : Result := readRegister 0x064 s

/-- R108: RD PC.PUL1. -/
def execRdPcPul1 (s : State) : Result := readRegister 0x068 s

/-- R108: RD PD.CFG0. -/
def execRdPdCfg0 (s : State) : Result := readRegister 0x06C s

/-- R108: RD PD.CFG1. -/
def execRdPdCfg1 (s : State) : Result := readRegister 0x070 s

/-- R108: RD PD.CFG2. -/
def execRdPdCfg2 (s : State) : Result := readRegister 0x074 s

/-- R108: RD PD.CFG3. -/
def execRdPdCfg3 (s : State) : Result := readRegister 0x078 s

/-- R108: RD PD.DAT. -/
def execRdPdDat (s : State) : Result := readRegister 0x07C s

/-- R108: RD PD.DRV0. -/
def execRdPdDrv0 (s : State) : Result := readRegister 0x080 s

/-- R108: RD PD.DRV1. -/
def execRdPdDrv1 (s : State) : Result := readRegister 0x084 s

/-- R108: RD PD.PUL0. -/
def execRdPdPul0 (s : State) : Result := readRegister 0x088 s

/-- R108: RD PD.PUL1. -/
def execRdPdPul1 (s : State) : Result := readRegister 0x08C s

/-- R108: RD PE.CFG0. -/
def execRdPeCfg0 (s : State) : Result := readRegister 0x090 s

/-- R108: RD PE.CFG1. -/
def execRdPeCfg1 (s : State) : Result := readRegister 0x094 s

/-- R108: RD PE.CFG2. -/
def execRdPeCfg2 (s : State) : Result := readRegister 0x098 s

/-- R108: RD PE.CFG3. -/
def execRdPeCfg3 (s : State) : Result := readRegister 0x09C s

/-- R108: RD PE.DAT. -/
def execRdPeDat (s : State) : Result := readRegister 0x0A0 s

/-- R108: RD PE.DRV0. -/
def execRdPeDrv0 (s : State) : Result := readRegister 0x0A4 s

/-- R108: RD PE.DRV1. -/
def execRdPeDrv1 (s : State) : Result := readRegister 0x0A8 s

/-- R108: RD PE.PUL0. -/
def execRdPePul0 (s : State) : Result := readRegister 0x0AC s

/-- R108: RD PE.PUL1. -/
def execRdPePul1 (s : State) : Result := readRegister 0x0B0 s

/-- R108: RD PF.CFG0. -/
def execRdPfCfg0 (s : State) : Result := readRegister 0x0B4 s

/-- R108: RD PF.CFG1. -/
def execRdPfCfg1 (s : State) : Result := readRegister 0x0B8 s

/-- R108: RD PF.CFG2. -/
def execRdPfCfg2 (s : State) : Result := readRegister 0x0BC s

/-- R108: RD PF.CFG3. -/
def execRdPfCfg3 (s : State) : Result := readRegister 0x0C0 s

/-- R108: RD PF.DAT. -/
def execRdPfDat (s : State) : Result := readRegister 0x0C4 s

/-- R108: RD PF.DRV0. -/
def execRdPfDrv0 (s : State) : Result := readRegister 0x0C8 s

/-- R108: RD PF.DRV1. -/
def execRdPfDrv1 (s : State) : Result := readRegister 0x0CC s

/-- R108: RD PF.PUL0. -/
def execRdPfPul0 (s : State) : Result := readRegister 0x0D0 s

/-- R108: RD PF.PUL1. -/
def execRdPfPul1 (s : State) : Result := readRegister 0x0D4 s

/-- R108: RD PG.CFG0. -/
def execRdPgCfg0 (s : State) : Result := readRegister 0x0D8 s

/-- R108: RD PG.CFG1. -/
def execRdPgCfg1 (s : State) : Result := readRegister 0x0DC s

/-- R108: RD PG.CFG2. -/
def execRdPgCfg2 (s : State) : Result := readRegister 0x0E0 s

/-- R108: RD PG.CFG3. -/
def execRdPgCfg3 (s : State) : Result := readRegister 0x0E4 s

/-- R108: RD PG.DAT. -/
def execRdPgDat (s : State) : Result := readRegister 0x0E8 s

/-- R108: RD PG.DRV0. -/
def execRdPgDrv0 (s : State) : Result := readRegister 0x0EC s

/-- R108: RD PG.DRV1. -/
def execRdPgDrv1 (s : State) : Result := readRegister 0x0F0 s

/-- R108: RD PG.PUL0. -/
def execRdPgPul0 (s : State) : Result := readRegister 0x0F4 s

/-- R108: RD PG.PUL1. -/
def execRdPgPul1 (s : State) : Result := readRegister 0x0F8 s

/-- R108: RD PH.CFG0. -/
def execRdPhCfg0 (s : State) : Result := readRegister 0x0FC s

/-- R108: RD PH.CFG1. -/
def execRdPhCfg1 (s : State) : Result := readRegister 0x100 s

/-- R108: RD PH.CFG2. -/
def execRdPhCfg2 (s : State) : Result := readRegister 0x104 s

/-- R108: RD PH.CFG3. -/
def execRdPhCfg3 (s : State) : Result := readRegister 0x108 s

/-- R108: RD PH.DAT. -/
def execRdPhDat (s : State) : Result := readRegister 0x10C s

/-- R108: RD PH.DRV0. -/
def execRdPhDrv0 (s : State) : Result := readRegister 0x110 s

/-- R108: RD PH.DRV1. -/
def execRdPhDrv1 (s : State) : Result := readRegister 0x114 s

/-- R108: RD PH.PUL0. -/
def execRdPhPul0 (s : State) : Result := readRegister 0x118 s

/-- R108: RD PH.PUL1. -/
def execRdPhPul1 (s : State) : Result := readRegister 0x11C s

/-- R108: RD PI.CFG0. -/
def execRdPiCfg0 (s : State) : Result := readRegister 0x120 s

/-- R108: RD PI.CFG1. -/
def execRdPiCfg1 (s : State) : Result := readRegister 0x124 s

/-- R108: RD PI.CFG2. -/
def execRdPiCfg2 (s : State) : Result := readRegister 0x128 s

/-- R108: RD PI.CFG3. -/
def execRdPiCfg3 (s : State) : Result := readRegister 0x12C s

/-- R108: RD PI.DAT. -/
def execRdPiDat (s : State) : Result := readRegister 0x130 s

/-- R108: RD PI.DRV0. -/
def execRdPiDrv0 (s : State) : Result := readRegister 0x134 s

/-- R108: RD PI.DRV1. -/
def execRdPiDrv1 (s : State) : Result := readRegister 0x138 s

/-- R108: RD PI.PUL0. -/
def execRdPiPul0 (s : State) : Result := readRegister 0x13C s

/-- R108: RD PI.PUL1. -/
def execRdPiPul1 (s : State) : Result := readRegister 0x140 s

end Sys2Proof.Machine
end

