-- ==== Sys2Proof/Machine/PortWrite.lean ====
section
/-! DEFINITION. The meanings of `WR` at a port register (40_gpio_port_bank.md R109 to R112): 81 offsets of one operation, R162. -/

namespace Sys2Proof.Machine

/-- R110: WR PA.CFG0. -/
def execWrPaCfg0 (v : Word) (s : State) : Result := writeRegister 0x000 v s

/-- R110: WR PA.CFG1. -/
def execWrPaCfg1 (v : Word) (s : State) : Result := writeRegister 0x004 v s

/-- R110: WR PA.CFG2. -/
def execWrPaCfg2 (v : Word) (s : State) : Result := writeRegister 0x008 v s

/-- R110: WR PA.CFG3. -/
def execWrPaCfg3 (v : Word) (s : State) : Result := writeRegister 0x00C v s

/-- R111: WR PA.DAT. -/
def execWrPaDat (v : Word) (s : State) : Result := writeRegister 0x010 v s

/-- R112: WR PA.DRV0. -/
def execWrPaDrv0 (v : Word) (s : State) : Result := writeRegister 0x014 v s

/-- R112: WR PA.DRV1. -/
def execWrPaDrv1 (v : Word) (s : State) : Result := writeRegister 0x018 v s

/-- R112: WR PA.PUL0. -/
def execWrPaPul0 (v : Word) (s : State) : Result := writeRegister 0x01C v s

/-- R112: WR PA.PUL1. -/
def execWrPaPul1 (v : Word) (s : State) : Result := writeRegister 0x020 v s

/-- R110: WR PB.CFG0. -/
def execWrPbCfg0 (v : Word) (s : State) : Result := writeRegister 0x024 v s

/-- R110: WR PB.CFG1. -/
def execWrPbCfg1 (v : Word) (s : State) : Result := writeRegister 0x028 v s

/-- R110: WR PB.CFG2. -/
def execWrPbCfg2 (v : Word) (s : State) : Result := writeRegister 0x02C v s

/-- R110: WR PB.CFG3. -/
def execWrPbCfg3 (v : Word) (s : State) : Result := writeRegister 0x030 v s

/-- R111: WR PB.DAT. -/
def execWrPbDat (v : Word) (s : State) : Result := writeRegister 0x034 v s

/-- R112: WR PB.DRV0. -/
def execWrPbDrv0 (v : Word) (s : State) : Result := writeRegister 0x038 v s

/-- R112: WR PB.DRV1. -/
def execWrPbDrv1 (v : Word) (s : State) : Result := writeRegister 0x03C v s

/-- R112: WR PB.PUL0. -/
def execWrPbPul0 (v : Word) (s : State) : Result := writeRegister 0x040 v s

/-- R112: WR PB.PUL1. -/
def execWrPbPul1 (v : Word) (s : State) : Result := writeRegister 0x044 v s

/-- R110: WR PC.CFG0. -/
def execWrPcCfg0 (v : Word) (s : State) : Result := writeRegister 0x048 v s

/-- R110: WR PC.CFG1. -/
def execWrPcCfg1 (v : Word) (s : State) : Result := writeRegister 0x04C v s

/-- R110: WR PC.CFG2. -/
def execWrPcCfg2 (v : Word) (s : State) : Result := writeRegister 0x050 v s

/-- R110: WR PC.CFG3. -/
def execWrPcCfg3 (v : Word) (s : State) : Result := writeRegister 0x054 v s

/-- R111: WR PC.DAT. -/
def execWrPcDat (v : Word) (s : State) : Result := writeRegister 0x058 v s

/-- R112: WR PC.DRV0. -/
def execWrPcDrv0 (v : Word) (s : State) : Result := writeRegister 0x05C v s

/-- R112: WR PC.DRV1. -/
def execWrPcDrv1 (v : Word) (s : State) : Result := writeRegister 0x060 v s

/-- R112: WR PC.PUL0. -/
def execWrPcPul0 (v : Word) (s : State) : Result := writeRegister 0x064 v s

/-- R112: WR PC.PUL1. -/
def execWrPcPul1 (v : Word) (s : State) : Result := writeRegister 0x068 v s

/-- R110: WR PD.CFG0. -/
def execWrPdCfg0 (v : Word) (s : State) : Result := writeRegister 0x06C v s

/-- R110: WR PD.CFG1. -/
def execWrPdCfg1 (v : Word) (s : State) : Result := writeRegister 0x070 v s

/-- R110: WR PD.CFG2. -/
def execWrPdCfg2 (v : Word) (s : State) : Result := writeRegister 0x074 v s

/-- R110: WR PD.CFG3. -/
def execWrPdCfg3 (v : Word) (s : State) : Result := writeRegister 0x078 v s

/-- R111: WR PD.DAT. -/
def execWrPdDat (v : Word) (s : State) : Result := writeRegister 0x07C v s

/-- R112: WR PD.DRV0. -/
def execWrPdDrv0 (v : Word) (s : State) : Result := writeRegister 0x080 v s

/-- R112: WR PD.DRV1. -/
def execWrPdDrv1 (v : Word) (s : State) : Result := writeRegister 0x084 v s

/-- R112: WR PD.PUL0. -/
def execWrPdPul0 (v : Word) (s : State) : Result := writeRegister 0x088 v s

/-- R112: WR PD.PUL1. -/
def execWrPdPul1 (v : Word) (s : State) : Result := writeRegister 0x08C v s

/-- R110: WR PE.CFG0. -/
def execWrPeCfg0 (v : Word) (s : State) : Result := writeRegister 0x090 v s

/-- R110: WR PE.CFG1. -/
def execWrPeCfg1 (v : Word) (s : State) : Result := writeRegister 0x094 v s

/-- R110: WR PE.CFG2. -/
def execWrPeCfg2 (v : Word) (s : State) : Result := writeRegister 0x098 v s

/-- R110: WR PE.CFG3. -/
def execWrPeCfg3 (v : Word) (s : State) : Result := writeRegister 0x09C v s

/-- R111: WR PE.DAT. -/
def execWrPeDat (v : Word) (s : State) : Result := writeRegister 0x0A0 v s

/-- R112: WR PE.DRV0. -/
def execWrPeDrv0 (v : Word) (s : State) : Result := writeRegister 0x0A4 v s

/-- R112: WR PE.DRV1. -/
def execWrPeDrv1 (v : Word) (s : State) : Result := writeRegister 0x0A8 v s

/-- R112: WR PE.PUL0. -/
def execWrPePul0 (v : Word) (s : State) : Result := writeRegister 0x0AC v s

/-- R112: WR PE.PUL1. -/
def execWrPePul1 (v : Word) (s : State) : Result := writeRegister 0x0B0 v s

/-- R110: WR PF.CFG0. -/
def execWrPfCfg0 (v : Word) (s : State) : Result := writeRegister 0x0B4 v s

/-- R110: WR PF.CFG1. -/
def execWrPfCfg1 (v : Word) (s : State) : Result := writeRegister 0x0B8 v s

/-- R110: WR PF.CFG2. -/
def execWrPfCfg2 (v : Word) (s : State) : Result := writeRegister 0x0BC v s

/-- R110: WR PF.CFG3. -/
def execWrPfCfg3 (v : Word) (s : State) : Result := writeRegister 0x0C0 v s

/-- R111: WR PF.DAT. -/
def execWrPfDat (v : Word) (s : State) : Result := writeRegister 0x0C4 v s

/-- R112: WR PF.DRV0. -/
def execWrPfDrv0 (v : Word) (s : State) : Result := writeRegister 0x0C8 v s

/-- R112: WR PF.DRV1. -/
def execWrPfDrv1 (v : Word) (s : State) : Result := writeRegister 0x0CC v s

/-- R112: WR PF.PUL0. -/
def execWrPfPul0 (v : Word) (s : State) : Result := writeRegister 0x0D0 v s

/-- R112: WR PF.PUL1. -/
def execWrPfPul1 (v : Word) (s : State) : Result := writeRegister 0x0D4 v s

/-- R110: WR PG.CFG0. -/
def execWrPgCfg0 (v : Word) (s : State) : Result := writeRegister 0x0D8 v s

/-- R110: WR PG.CFG1. -/
def execWrPgCfg1 (v : Word) (s : State) : Result := writeRegister 0x0DC v s

/-- R110: WR PG.CFG2. -/
def execWrPgCfg2 (v : Word) (s : State) : Result := writeRegister 0x0E0 v s

/-- R110: WR PG.CFG3. -/
def execWrPgCfg3 (v : Word) (s : State) : Result := writeRegister 0x0E4 v s

/-- R111: WR PG.DAT. -/
def execWrPgDat (v : Word) (s : State) : Result := writeRegister 0x0E8 v s

/-- R112: WR PG.DRV0. -/
def execWrPgDrv0 (v : Word) (s : State) : Result := writeRegister 0x0EC v s

/-- R112: WR PG.DRV1. -/
def execWrPgDrv1 (v : Word) (s : State) : Result := writeRegister 0x0F0 v s

/-- R112: WR PG.PUL0. -/
def execWrPgPul0 (v : Word) (s : State) : Result := writeRegister 0x0F4 v s

/-- R112: WR PG.PUL1. -/
def execWrPgPul1 (v : Word) (s : State) : Result := writeRegister 0x0F8 v s

/-- R110: WR PH.CFG0. -/
def execWrPhCfg0 (v : Word) (s : State) : Result := writeRegister 0x0FC v s

/-- R110: WR PH.CFG1. -/
def execWrPhCfg1 (v : Word) (s : State) : Result := writeRegister 0x100 v s

/-- R110: WR PH.CFG2. -/
def execWrPhCfg2 (v : Word) (s : State) : Result := writeRegister 0x104 v s

/-- R110: WR PH.CFG3. -/
def execWrPhCfg3 (v : Word) (s : State) : Result := writeRegister 0x108 v s

/-- R111: WR PH.DAT. -/
def execWrPhDat (v : Word) (s : State) : Result := writeRegister 0x10C v s

/-- R112: WR PH.DRV0. -/
def execWrPhDrv0 (v : Word) (s : State) : Result := writeRegister 0x110 v s

/-- R112: WR PH.DRV1. -/
def execWrPhDrv1 (v : Word) (s : State) : Result := writeRegister 0x114 v s

/-- R112: WR PH.PUL0. -/
def execWrPhPul0 (v : Word) (s : State) : Result := writeRegister 0x118 v s

/-- R112: WR PH.PUL1. -/
def execWrPhPul1 (v : Word) (s : State) : Result := writeRegister 0x11C v s

/-- R110: WR PI.CFG0. -/
def execWrPiCfg0 (v : Word) (s : State) : Result := writeRegister 0x120 v s

/-- R110: WR PI.CFG1. -/
def execWrPiCfg1 (v : Word) (s : State) : Result := writeRegister 0x124 v s

/-- R110: WR PI.CFG2. -/
def execWrPiCfg2 (v : Word) (s : State) : Result := writeRegister 0x128 v s

/-- R110: WR PI.CFG3. -/
def execWrPiCfg3 (v : Word) (s : State) : Result := writeRegister 0x12C v s

/-- R111: WR PI.DAT. -/
def execWrPiDat (v : Word) (s : State) : Result := writeRegister 0x130 v s

/-- R112: WR PI.DRV0. -/
def execWrPiDrv0 (v : Word) (s : State) : Result := writeRegister 0x134 v s

/-- R112: WR PI.DRV1. -/
def execWrPiDrv1 (v : Word) (s : State) : Result := writeRegister 0x138 v s

/-- R112: WR PI.PUL0. -/
def execWrPiPul0 (v : Word) (s : State) : Result := writeRegister 0x13C v s

/-- R112: WR PI.PUL1. -/
def execWrPiPul1 (v : Word) (s : State) : Result := writeRegister 0x140 v s

end Sys2Proof.Machine
end

