-- ==== Sys2Proof/Machine/SensorBytes.lean ====
section
/-! DEFINITION. The meanings of the sensors' byte operations (45_sensor_addressed.md R201 to R206; 46_sensor_command.md
R218 to R222). Every row is its one operation (A.TX, A.RX, C.XFER) with the byte of the row: which rule
applies is decided by the device's cnt and ptr (R190), so that the operation has its effect in every state (R72; log
entry 7). -/

namespace Sys2Proof.Machine

/-- R201: A.TX of the pointer byte. -/
def execATxPointer (b : Byte) (s : State) : Result := sendA b s

/-- R202: A.TX of the data byte of a write. -/
def execATxData (b : Byte) (s : State) : Result := sendA b s

/-- R203: A.TX of a third or later byte of a frame. -/
def execATxOversized (b : Byte) (s : State) : Result := sendA b s

/-- R204: A.RX as the first byte of a frame; refused there. -/
def execARxFirst (s : State) : Result := receiveA s

/-- R205: A.RX of the data byte of a read. -/
def execARxData (s : State) : Result := receiveA s

/-- R206: A.RX of a third or later byte of a frame. -/
def execARxOversized (s : State) : Result := receiveA s

/-- R218: C.XFER of a read command byte (default layout: 11rrrrrr). -/
def execCXferReadCommand (r : BitVec 6) (s : State) : Result := exchangeC (0b11#2 ++ r) s

/-- R218: C.XFER of a write command byte (default layout: 10rrrrrr). -/
def execCXferWriteCommand (r : BitVec 6) (s : State) : Result := exchangeC (0b10#2 ++ r) s

/-- R219: C.XFER of a byte with bit 7 clear (default layout: no start flag); refused as a command. -/
def execCXferStartFlagClear (x : BitVec 7) (s : State) : Result := exchangeC (0b0#1 ++ x) s

/-- R220: C.XFER of the byte sent in the data phase of a read, which is ignored. -/
def execCXferReadData (d : Byte) (s : State) : Result := exchangeC d s

/-- R221: C.XFER of the data byte of a write. -/
def execCXferWriteData (d : Byte) (s : State) : Result := exchangeC d s

/-- R222: C.XFER of a third or later byte of a frame. -/
def execCXferOversized (b : Byte) (s : State) : Result := exchangeC b s

end Sys2Proof.Machine
end

