-- ==== Sys2Proof/Machine/Dispatch.lean ====
section
/-! DEFINITION. The dispatch: one arm per row of the opcode table, each one call of the row's meaning. -/

namespace Sys2Proof.Machine

def exec (i : Instr) (s : State) : Host.Outcome State Fault Refusal :=
  match i with
  | .rdPaCfg0 => Sys2Proof.Machine.execRdPaCfg0 s
  | .wrPaCfg0 v => Sys2Proof.Machine.execWrPaCfg0 v s
  | .rdPaCfg1 => Sys2Proof.Machine.execRdPaCfg1 s
  | .wrPaCfg1 v => Sys2Proof.Machine.execWrPaCfg1 v s
  | .rdPaCfg2 => Sys2Proof.Machine.execRdPaCfg2 s
  | .wrPaCfg2 v => Sys2Proof.Machine.execWrPaCfg2 v s
  | .rdPaCfg3 => Sys2Proof.Machine.execRdPaCfg3 s
  | .wrPaCfg3 v => Sys2Proof.Machine.execWrPaCfg3 v s
  | .rdPaDat => Sys2Proof.Machine.execRdPaDat s
  | .wrPaDat v => Sys2Proof.Machine.execWrPaDat v s
  | .rdPaDrv0 => Sys2Proof.Machine.execRdPaDrv0 s
  | .wrPaDrv0 v => Sys2Proof.Machine.execWrPaDrv0 v s
  | .rdPaDrv1 => Sys2Proof.Machine.execRdPaDrv1 s
  | .wrPaDrv1 v => Sys2Proof.Machine.execWrPaDrv1 v s
  | .rdPaPul0 => Sys2Proof.Machine.execRdPaPul0 s
  | .wrPaPul0 v => Sys2Proof.Machine.execWrPaPul0 v s
  | .rdPaPul1 => Sys2Proof.Machine.execRdPaPul1 s
  | .wrPaPul1 v => Sys2Proof.Machine.execWrPaPul1 v s
  | .rdPbCfg0 => Sys2Proof.Machine.execRdPbCfg0 s
  | .wrPbCfg0 v => Sys2Proof.Machine.execWrPbCfg0 v s
  | .rdPbCfg1 => Sys2Proof.Machine.execRdPbCfg1 s
  | .wrPbCfg1 v => Sys2Proof.Machine.execWrPbCfg1 v s
  | .rdPbCfg2 => Sys2Proof.Machine.execRdPbCfg2 s
  | .wrPbCfg2 v => Sys2Proof.Machine.execWrPbCfg2 v s
  | .rdPbCfg3 => Sys2Proof.Machine.execRdPbCfg3 s
  | .wrPbCfg3 v => Sys2Proof.Machine.execWrPbCfg3 v s
  | .rdPbDat => Sys2Proof.Machine.execRdPbDat s
  | .wrPbDat v => Sys2Proof.Machine.execWrPbDat v s
  | .rdPbDrv0 => Sys2Proof.Machine.execRdPbDrv0 s
  | .wrPbDrv0 v => Sys2Proof.Machine.execWrPbDrv0 v s
  | .rdPbDrv1 => Sys2Proof.Machine.execRdPbDrv1 s
  | .wrPbDrv1 v => Sys2Proof.Machine.execWrPbDrv1 v s
  | .rdPbPul0 => Sys2Proof.Machine.execRdPbPul0 s
  | .wrPbPul0 v => Sys2Proof.Machine.execWrPbPul0 v s
  | .rdPbPul1 => Sys2Proof.Machine.execRdPbPul1 s
  | .wrPbPul1 v => Sys2Proof.Machine.execWrPbPul1 v s
  | .rdPcCfg0 => Sys2Proof.Machine.execRdPcCfg0 s
  | .wrPcCfg0 v => Sys2Proof.Machine.execWrPcCfg0 v s
  | .rdPcCfg1 => Sys2Proof.Machine.execRdPcCfg1 s
  | .wrPcCfg1 v => Sys2Proof.Machine.execWrPcCfg1 v s
  | .rdPcCfg2 => Sys2Proof.Machine.execRdPcCfg2 s
  | .wrPcCfg2 v => Sys2Proof.Machine.execWrPcCfg2 v s
  | .rdPcCfg3 => Sys2Proof.Machine.execRdPcCfg3 s
  | .wrPcCfg3 v => Sys2Proof.Machine.execWrPcCfg3 v s
  | .rdPcDat => Sys2Proof.Machine.execRdPcDat s
  | .wrPcDat v => Sys2Proof.Machine.execWrPcDat v s
  | .rdPcDrv0 => Sys2Proof.Machine.execRdPcDrv0 s
  | .wrPcDrv0 v => Sys2Proof.Machine.execWrPcDrv0 v s
  | .rdPcDrv1 => Sys2Proof.Machine.execRdPcDrv1 s
  | .wrPcDrv1 v => Sys2Proof.Machine.execWrPcDrv1 v s
  | .rdPcPul0 => Sys2Proof.Machine.execRdPcPul0 s
  | .wrPcPul0 v => Sys2Proof.Machine.execWrPcPul0 v s
  | .rdPcPul1 => Sys2Proof.Machine.execRdPcPul1 s
  | .wrPcPul1 v => Sys2Proof.Machine.execWrPcPul1 v s
  | .rdPdCfg0 => Sys2Proof.Machine.execRdPdCfg0 s
  | .wrPdCfg0 v => Sys2Proof.Machine.execWrPdCfg0 v s
  | .rdPdCfg1 => Sys2Proof.Machine.execRdPdCfg1 s
  | .wrPdCfg1 v => Sys2Proof.Machine.execWrPdCfg1 v s
  | .rdPdCfg2 => Sys2Proof.Machine.execRdPdCfg2 s
  | .wrPdCfg2 v => Sys2Proof.Machine.execWrPdCfg2 v s
  | .rdPdCfg3 => Sys2Proof.Machine.execRdPdCfg3 s
  | .wrPdCfg3 v => Sys2Proof.Machine.execWrPdCfg3 v s
  | .rdPdDat => Sys2Proof.Machine.execRdPdDat s
  | .wrPdDat v => Sys2Proof.Machine.execWrPdDat v s
  | .rdPdDrv0 => Sys2Proof.Machine.execRdPdDrv0 s
  | .wrPdDrv0 v => Sys2Proof.Machine.execWrPdDrv0 v s
  | .rdPdDrv1 => Sys2Proof.Machine.execRdPdDrv1 s
  | .wrPdDrv1 v => Sys2Proof.Machine.execWrPdDrv1 v s
  | .rdPdPul0 => Sys2Proof.Machine.execRdPdPul0 s
  | .wrPdPul0 v => Sys2Proof.Machine.execWrPdPul0 v s
  | .rdPdPul1 => Sys2Proof.Machine.execRdPdPul1 s
  | .wrPdPul1 v => Sys2Proof.Machine.execWrPdPul1 v s
  | .rdPeCfg0 => Sys2Proof.Machine.execRdPeCfg0 s
  | .wrPeCfg0 v => Sys2Proof.Machine.execWrPeCfg0 v s
  | .rdPeCfg1 => Sys2Proof.Machine.execRdPeCfg1 s
  | .wrPeCfg1 v => Sys2Proof.Machine.execWrPeCfg1 v s
  | .rdPeCfg2 => Sys2Proof.Machine.execRdPeCfg2 s
  | .wrPeCfg2 v => Sys2Proof.Machine.execWrPeCfg2 v s
  | .rdPeCfg3 => Sys2Proof.Machine.execRdPeCfg3 s
  | .wrPeCfg3 v => Sys2Proof.Machine.execWrPeCfg3 v s
  | .rdPeDat => Sys2Proof.Machine.execRdPeDat s
  | .wrPeDat v => Sys2Proof.Machine.execWrPeDat v s
  | .rdPeDrv0 => Sys2Proof.Machine.execRdPeDrv0 s
  | .wrPeDrv0 v => Sys2Proof.Machine.execWrPeDrv0 v s
  | .rdPeDrv1 => Sys2Proof.Machine.execRdPeDrv1 s
  | .wrPeDrv1 v => Sys2Proof.Machine.execWrPeDrv1 v s
  | .rdPePul0 => Sys2Proof.Machine.execRdPePul0 s
  | .wrPePul0 v => Sys2Proof.Machine.execWrPePul0 v s
  | .rdPePul1 => Sys2Proof.Machine.execRdPePul1 s
  | .wrPePul1 v => Sys2Proof.Machine.execWrPePul1 v s
  | .rdPfCfg0 => Sys2Proof.Machine.execRdPfCfg0 s
  | .wrPfCfg0 v => Sys2Proof.Machine.execWrPfCfg0 v s
  | .rdPfCfg1 => Sys2Proof.Machine.execRdPfCfg1 s
  | .wrPfCfg1 v => Sys2Proof.Machine.execWrPfCfg1 v s
  | .rdPfCfg2 => Sys2Proof.Machine.execRdPfCfg2 s
  | .wrPfCfg2 v => Sys2Proof.Machine.execWrPfCfg2 v s
  | .rdPfCfg3 => Sys2Proof.Machine.execRdPfCfg3 s
  | .wrPfCfg3 v => Sys2Proof.Machine.execWrPfCfg3 v s
  | .rdPfDat => Sys2Proof.Machine.execRdPfDat s
  | .wrPfDat v => Sys2Proof.Machine.execWrPfDat v s
  | .rdPfDrv0 => Sys2Proof.Machine.execRdPfDrv0 s
  | .wrPfDrv0 v => Sys2Proof.Machine.execWrPfDrv0 v s
  | .rdPfDrv1 => Sys2Proof.Machine.execRdPfDrv1 s
  | .wrPfDrv1 v => Sys2Proof.Machine.execWrPfDrv1 v s
  | .rdPfPul0 => Sys2Proof.Machine.execRdPfPul0 s
  | .wrPfPul0 v => Sys2Proof.Machine.execWrPfPul0 v s
  | .rdPfPul1 => Sys2Proof.Machine.execRdPfPul1 s
  | .wrPfPul1 v => Sys2Proof.Machine.execWrPfPul1 v s
  | .rdPgCfg0 => Sys2Proof.Machine.execRdPgCfg0 s
  | .wrPgCfg0 v => Sys2Proof.Machine.execWrPgCfg0 v s
  | .rdPgCfg1 => Sys2Proof.Machine.execRdPgCfg1 s
  | .wrPgCfg1 v => Sys2Proof.Machine.execWrPgCfg1 v s
  | .rdPgCfg2 => Sys2Proof.Machine.execRdPgCfg2 s
  | .wrPgCfg2 v => Sys2Proof.Machine.execWrPgCfg2 v s
  | .rdPgCfg3 => Sys2Proof.Machine.execRdPgCfg3 s
  | .wrPgCfg3 v => Sys2Proof.Machine.execWrPgCfg3 v s
  | .rdPgDat => Sys2Proof.Machine.execRdPgDat s
  | .wrPgDat v => Sys2Proof.Machine.execWrPgDat v s
  | .rdPgDrv0 => Sys2Proof.Machine.execRdPgDrv0 s
  | .wrPgDrv0 v => Sys2Proof.Machine.execWrPgDrv0 v s
  | .rdPgDrv1 => Sys2Proof.Machine.execRdPgDrv1 s
  | .wrPgDrv1 v => Sys2Proof.Machine.execWrPgDrv1 v s
  | .rdPgPul0 => Sys2Proof.Machine.execRdPgPul0 s
  | .wrPgPul0 v => Sys2Proof.Machine.execWrPgPul0 v s
  | .rdPgPul1 => Sys2Proof.Machine.execRdPgPul1 s
  | .wrPgPul1 v => Sys2Proof.Machine.execWrPgPul1 v s
  | .rdPhCfg0 => Sys2Proof.Machine.execRdPhCfg0 s
  | .wrPhCfg0 v => Sys2Proof.Machine.execWrPhCfg0 v s
  | .rdPhCfg1 => Sys2Proof.Machine.execRdPhCfg1 s
  | .wrPhCfg1 v => Sys2Proof.Machine.execWrPhCfg1 v s
  | .rdPhCfg2 => Sys2Proof.Machine.execRdPhCfg2 s
  | .wrPhCfg2 v => Sys2Proof.Machine.execWrPhCfg2 v s
  | .rdPhCfg3 => Sys2Proof.Machine.execRdPhCfg3 s
  | .wrPhCfg3 v => Sys2Proof.Machine.execWrPhCfg3 v s
  | .rdPhDat => Sys2Proof.Machine.execRdPhDat s
  | .wrPhDat v => Sys2Proof.Machine.execWrPhDat v s
  | .rdPhDrv0 => Sys2Proof.Machine.execRdPhDrv0 s
  | .wrPhDrv0 v => Sys2Proof.Machine.execWrPhDrv0 v s
  | .rdPhDrv1 => Sys2Proof.Machine.execRdPhDrv1 s
  | .wrPhDrv1 v => Sys2Proof.Machine.execWrPhDrv1 v s
  | .rdPhPul0 => Sys2Proof.Machine.execRdPhPul0 s
  | .wrPhPul0 v => Sys2Proof.Machine.execWrPhPul0 v s
  | .rdPhPul1 => Sys2Proof.Machine.execRdPhPul1 s
  | .wrPhPul1 v => Sys2Proof.Machine.execWrPhPul1 v s
  | .rdPiCfg0 => Sys2Proof.Machine.execRdPiCfg0 s
  | .wrPiCfg0 v => Sys2Proof.Machine.execWrPiCfg0 v s
  | .rdPiCfg1 => Sys2Proof.Machine.execRdPiCfg1 s
  | .wrPiCfg1 v => Sys2Proof.Machine.execWrPiCfg1 v s
  | .rdPiCfg2 => Sys2Proof.Machine.execRdPiCfg2 s
  | .wrPiCfg2 v => Sys2Proof.Machine.execWrPiCfg2 v s
  | .rdPiCfg3 => Sys2Proof.Machine.execRdPiCfg3 s
  | .wrPiCfg3 v => Sys2Proof.Machine.execWrPiCfg3 v s
  | .rdPiDat => Sys2Proof.Machine.execRdPiDat s
  | .wrPiDat v => Sys2Proof.Machine.execWrPiDat v s
  | .rdPiDrv0 => Sys2Proof.Machine.execRdPiDrv0 s
  | .wrPiDrv0 v => Sys2Proof.Machine.execWrPiDrv0 v s
  | .rdPiDrv1 => Sys2Proof.Machine.execRdPiDrv1 s
  | .wrPiDrv1 v => Sys2Proof.Machine.execWrPiDrv1 v s
  | .rdPiPul0 => Sys2Proof.Machine.execRdPiPul0 s
  | .wrPiPul0 v => Sys2Proof.Machine.execWrPiPul0 v s
  | .rdPiPul1 => Sys2Proof.Machine.execRdPiPul1 s
  | .wrPiPul1 v => Sys2Proof.Machine.execWrPiPul1 v s
  | .rdIntCfg0 => Sys2Proof.Machine.execRdIntCfg0 s
  | .wrIntCfg0 v => Sys2Proof.Machine.execWrIntCfg0 v s
  | .rdIntCfg1 => Sys2Proof.Machine.execRdIntCfg1 s
  | .wrIntCfg1 v => Sys2Proof.Machine.execWrIntCfg1 v s
  | .rdIntCfg2 => Sys2Proof.Machine.execRdIntCfg2 s
  | .wrIntCfg2 v => Sys2Proof.Machine.execWrIntCfg2 v s
  | .rdIntCfg3 => Sys2Proof.Machine.execRdIntCfg3 s
  | .wrIntCfg3 v => Sys2Proof.Machine.execWrIntCfg3 v s
  | .rdIntCtl => Sys2Proof.Machine.execRdIntCtl s
  | .wrIntCtl v => Sys2Proof.Machine.execWrIntCtl v s
  | .rdIntSta => Sys2Proof.Machine.execRdIntSta s
  | .wrIntSta v => Sys2Proof.Machine.execWrIntSta v s
  | .rdIntDeb => Sys2Proof.Machine.execRdIntDeb s
  | .wrIntDeb v => Sys2Proof.Machine.execWrIntDeb v s
  | .rdMisaligned off => Sys2Proof.Machine.execRdMisaligned off s
  | .rdUnmapped off => Sys2Proof.Machine.execRdUnmapped off s
  | .wrMisaligned off v => Sys2Proof.Machine.execWrMisaligned off v s
  | .wrUnmapped off v => Sys2Proof.Machine.execWrUnmapped off v s
  | .pin n k l => Sys2Proof.Machine.execPin n k l s
  | .rst => Sys2Proof.Machine.execRst s
  | .aSel => Sys2Proof.Machine.execASel s
  | .aDesel => Sys2Proof.Machine.execADesel s
  | .aRst => Sys2Proof.Machine.execARst s
  | .cSel => Sys2Proof.Machine.execCSel s
  | .cDesel => Sys2Proof.Machine.execCDesel s
  | .cRst => Sys2Proof.Machine.execCRst s
  | .aTxPointer b => Sys2Proof.Machine.execATxPointer b s
  | .aTxData b => Sys2Proof.Machine.execATxData b s
  | .aTxOversized b => Sys2Proof.Machine.execATxOversized b s
  | .aRxFirst => Sys2Proof.Machine.execARxFirst s
  | .aRxData => Sys2Proof.Machine.execARxData s
  | .aRxOversized => Sys2Proof.Machine.execARxOversized s
  | .cXferReadCommand r => Sys2Proof.Machine.execCXferReadCommand r s
  | .cXferWriteCommand r => Sys2Proof.Machine.execCXferWriteCommand r s
  | .cXferStartFlagClear x => Sys2Proof.Machine.execCXferStartFlagClear x s
  | .cXferReadData d => Sys2Proof.Machine.execCXferReadData d s
  | .cXferWriteData d => Sys2Proof.Machine.execCXferWriteData d s
  | .cXferOversized b => Sys2Proof.Machine.execCXferOversized b s

end Sys2Proof.Machine
end

