-- ==== Sys2Proof/Machine/Step.lean ====
section
/-! DEFINITION. One step: the block takes the oldest operation that has been presented, finds its row, and does it to
completion before the next (20_memory.md R59, R62). With none presented it waits, unchanged (70_reset_and_hazards.md
R268; 60_exceptions.md R253: nothing changes with time). -/

namespace Sys2Proof.Machine

/-- The refusal of a presentation that has no row. -/
def Refusal.ofDecode (e : DecodeError) : Refusal :=
  match e with
  | .accessWidth size => .accessWidth size
  | .pinOutOfRange => .pinOutOfRange

/-- One step of the block (R18). -/
def step (s : State) : Host.Outcome State Fault Refusal :=
  match s.pending with
  | [] => .next s
  | op :: rest =>
    match decode s.cfg s.phases op with
    | .ok i => exec i { s with pending := rest }
    | .error e => .refused (Refusal.ofDecode e)

/-- The state with the operation of a table word presented next, before every other (log entry 2). A word of up to 8 bits
is the first byte of a SENS_C frame, so the frame is started (R189). -/
def State.withFetchWord (s : State) (nbits w : Nat) : State :=
  { s with
    sensC := if 0 < nbits ∧ nbits ≤ 8 then s.sensC.frameStart else s.sensC
    pending := tableOp nbits w :: s.pending }

end Sys2Proof.Machine
end

