-- ==== Sys2Proof/Safety.lean ====
section
/-! DEFINITION. The terms in which the statements speak of a safe run: which pins raise a status bit, and the invariants
that the spec gives the block (10_state.md R33, R30; 41_gpio_pin_decoder.md R130; 44_sensor_common.md R182, R192;
46_sensor_command.md R225). -/

namespace Sys2Proof.Machine

/-- R138: evaluated with these two levels, pin i of port n sets status bit l: it is mapped to l, it is an input, and the
mode of l fires. -/
abbrev Gpio.pinRaises (cfg : Params) (g : Gpio) (n i : Nat) (l : Fin 32) (prior new : Bool) : Prop :=
  cfg.irqLineOf n i = some l ∧ g.isInput n i = true ∧ fire (g.mode l) prior new = true

/-- R141: the evaluation of port n sets status bit l. -/
abbrev Gpio.portRaises (cfg : Params) (g : Gpio) (n : Nat) (l : Fin 32) : Prop :=
  ∃ i, i < cfg.pinCount n ∧ g.pinRaises cfg n i l (g.dat n i) (g.dat n i)

/-- R144: the evaluation of every port sets status bit l. -/
abbrev Gpio.anyRaises (cfg : Params) (g : Gpio) (l : Fin 32) : Prop :=
  ∃ n, n < cfg.nPorts ∧ g.portRaises cfg n l

/-- Bit l of INT_STA. -/
abbrev Gpio.status (g : Gpio) (l : Fin 32) : Bool := (g.word intStaIdx).getLsbD l.val

/-- R33 (c): no pin is mapped to interrupt line l. -/
abbrev lineUnmapped (cfg : Params) (l : Fin 32) : Prop :=
  ∀ n, n < cfg.nPorts → ∀ i, i < cfg.pinCount n → cfg.irqLineOf n i ≠ some l

/-- R33: (a) a port word is 0 outside its write mask, (b) irq is the aggregate, (c) the status bit of a line that no pin
is mapped to is 0. -/
abbrev Gpio.Inv (cfg : Params) (g : Gpio) : Prop :=
  (∀ n, n < cfg.nPorts → ∀ k : PortReg, g.word (portIdx n k) &&& ~~~portMask k (cfg.pinCount n) = 0) ∧
  g.irq = ((g.word intCtlIdx &&& g.word intStaIdx) != 0) ∧
  ∀ l : Fin 32, lineUnmapped cfg l → g.status l = false

/-- R130: the output line of every input pin is low. -/
abbrev Gpio.InputsLow (cfg : Params) (g : Gpio) : Prop :=
  ∀ n, n < cfg.nPorts → ∀ i, i < cfg.pinCount n → g.isInput n i = true → g.line n i = false

/-- R20, R30: what is no register and no pin's line stays 0: the words between the port area and the interrupt registers,
and the latch bits of pins that no port has. -/
abbrev Gpio.VoidsZero (cfg : Params) (g : Gpio) : Prop :=
  (∀ w, 9 * cfg.nPorts ≤ w → w < 128 → g.word w = 0) ∧
  ∀ n i, cfg.nPorts ≤ n ∨ cfg.pinCount n ≤ i → g.line n i = false

/-- R36, R182, R35: ID holds ID_CONST and CTRL holds no bit outside CTRL_WMASK; R192: the cursor is 0 while no byte of the
frame has come. -/
abbrev Sensor.Inv (p : SensorParams) (d : Sensor) : Prop :=
  d.id = p.idConst ∧ d.ctrl &&& ~~~p.ctrlWMask = 0 ∧ (d.cnt = .phase0 → d.ptr = 0x00)

/-- R225: SENS_C waits for a data byte only after a command byte with its start flag set. -/
abbrev Sensor.Started (cfg : Params) (d : Sensor) : Prop :=
  d.cnt = .phase1 → (commandFields cfg d.ptr).start = true

/-- R70: the three devices of the block. -/
inductive Device where
  | gpio
  | sensA
  | sensC
deriving DecidableEq, Repr

/-- R70: the device that an operation is presented to. -/
def deviceOf (op : Op) : Device :=
  match op with
  | .rd _ _ => .gpio
  | .wr _ _ _ => .gpio
  | .pin _ _ _ => .gpio
  | .rst => .gpio
  | .aSel => .sensA
  | .aDesel => .sensA
  | .aTx _ => .sensA
  | .aRx => .sensA
  | .aRst => .sensA
  | .cSel => .sensC
  | .cDesel => .sensC
  | .cXfer _ => .sensC
  | .cRst => .sensC

/-- Two states agree on one device. -/
abbrev State.AgreeOn (d : Device) (s t : State) : Prop :=
  match d with
  | .gpio => s.gpio = t.gpio
  | .sensA => s.sensA = t.sensA
  | .sensC => s.sensC = t.sensC

/-- R62: k steps, each on what the one before it left, up to the first refusal. -/
def steps (k : Nat) (s : State) : Result :=
  match k with
  | 0 => .next s
  | k + 1 =>
    match step s with
    | .next t => steps k t
    | .fault e => .fault e
    | .refused r => .refused r

end Sys2Proof.Machine

namespace Sys2Proof

open Sys2Proof.Machine

/-- R91: i is the row of `RD` at register k of port n: the register's own row for the nine ports of the table, the row
RD <unmapped> for a port that a block with N > 9 has beyond them. -/
abbrev Instr.ReadsPort (n : Nat) (k : PortReg) (i : Instr) : Prop :=
  (∃ p : PortName, i = Instr.rdPort p k ∧ n = p.index) ∨ i = .rdUnmapped (0x24 * n + 4 * k.index)

/-- R91: i is the row of `WR` with value v at register k of port n. -/
abbrev Instr.WritesPort (n : Nat) (k : PortReg) (v : Word) (i : Instr) : Prop :=
  (∃ p : PortName, i = Instr.wrPort p k v ∧ n = p.index) ∨ i = .wrUnmapped (0x24 * n + 4 * k.index) v

end Sys2Proof
end

