-- ==== Sys2Proof/Certificates/Slice0/Obligations.lean ====
section
/-! DEFINITION. The statements for the provers, each a proposition about the model, with the rule of the spec that it
formalises. The parameters ride in the state, so a statement about every state is one about every parameter set; `Wf` is
the range of the parameters that R9 and R53 give, which no operation changes. Where a statement
presents operations in `State.pending`, the list is the model's form of the total order of R62 (log entry 3). -/

open Sys2Proof Sys2Proof.Machine

/-! ## Presentation and decoding -/

/-- R73, R84, R91: the decoder gives back every well-formed row from the operation that the row stands for, in the
states that select the row. -/
def Obligations.DecodeOfEncodeIsTheRow : Prop :=
  ∀ (cfg : Params) (ph : Phases) (i : Instr), i.wellFormed cfg = true → i.selectedIn ph = true →
    decode cfg ph (encode i) = .ok i

/-- R73, R84, R91: a decoded row is well-formed, is selected in the state, and stands for the presented operation: no
bit of an offset, a value or a byte is dropped. -/
def Obligations.EncodeOfDecodeIsTheOperation : Prop :=
  ∀ (cfg : Params) (ph : Phases) (op : Op) (i : Instr), decode cfg ph op = .ok i →
    encode i = op ∧ i.wellFormed cfg = true ∧ i.selectedIn ph = true

/-- Words written out from the register map (R75, R76) and from the command table (R84) decode to their rows. That a
table word of 32 bits is an `RD` and one of 8 bits a `C.XFER` is the model's choice (log entry 2): the spec has no
instruction word. The command bytes are in the default layout, the spec's own decision D25. -/
def Obligations.SampleWordsDecodeToTheirRows : Prop :=
  decodeTableWord 32 0x000 = some .rdPaCfg0 ∧ decodeTableWord 32 0x10C = some .rdPhDat ∧
  decodeTableWord 32 0x140 = some .rdPiPul1 ∧ decodeTableWord 32 0x144 = some (.rdUnmapped 0x144) ∧
  decodeTableWord 32 0x211 = some (.rdMisaligned 0x211) ∧ decodeTableWord 32 0x214 = some .rdIntSta ∧
  decodeTableWord 8 0b11000010 = some (.cXferReadCommand 2) ∧
  decodeTableWord 8 0b10000001 = some (.cXferWriteCommand 1) ∧
  decodeTableWord 8 0b01000001 = some (.cXferStartFlagClear 0x41) ∧
  decode Params.ref ⟨.phase0, .phase1, true⟩ (.wr 4 0x0B4 0xFFFFFFFF) = .ok (.wrPfCfg0 0xFFFFFFFF) ∧
  decode Params.ref ⟨.phase0, .used, true⟩ (.cXfer 0xC1) = .ok (.cXferOversized 0xC1)

/-- R51, R73: for N ports, the offsets that decode to no register are the misaligned ones and the aligned ones that
lie outside the port area and outside 0x200 to 0x218. -/
def Obligations.UnmappedOffsetsAreTheRest : Prop :=
  ∀ nPorts off : Nat, 0x24 * nPorts ≤ 0x200 →
    (decodeOffset nPorts off = .unmapped ↔
      off % 4 ≠ 0 ∨ (0x24 * nPorts ≤ off ∧ ¬ (0x200 ≤ off ∧ off ≤ 0x218)))

/-- A step does the oldest presented operation: it runs the row that the operation decodes to, in the state with that
operation taken away; an operation without a row is refused by its name; with nothing presented the block waits.
The queue of presented operations and the waiting are the model's choice (log entry 3), the refusal by name too
(log entry 16); that an operation is done whole, one at a time, is R18 and R62. -/
def Obligations.StepRunsTheDecodedRow : Prop :=
  ∀ s : State,
    (s.pending = [] → step s = .next s) ∧
    ∀ (op : Op) (rest : List Op), s.pending = op :: rest →
      (∀ i, decode s.cfg s.phases op = .ok i → step s = exec i { s with pending := rest }) ∧
      (∀ e, decode s.cfg s.phases op = .error e → step s = .refused (Refusal.ofDecode e))

/-- The model's own interface (log entry 2): a table word placed for fetching is the instruction that the next step
runs. The interface is no rule of the spec. -/
def Obligations.TableWordIsRunNext : Prop :=
  ∀ (s : State) (nbits w : Nat) (i : Instr), decodeTableWord nbits w = some i →
    step (s.withFetchWord nbits w) =
      exec i { s with sensC := if 0 < nbits ∧ nbits ≤ 8 then s.sensC.frameStart else s.sensC }

/-- R242, R225, U28: a step is refused exactly for the presentations to which the spec gives no meaning. That these
presentations are refused is the spec's own choice (decisions D14, D15, D24, D26 and the treatment of U28); the
form of the refusal is the model's choice (log entry 16). -/
def Obligations.StepRefusesExactlyTheUndefined : Prop :=
  ∀ s : State, (∃ r, step s = .refused r) ↔
    ∃ op rest, s.pending = op :: rest ∧
      ((∃ size off, op = .rd size off ∧ size ≠ 4) ∨
       (∃ size off v, op = .wr size off v ∧ size ≠ 4) ∨
       (∃ n i l, op = .pin n i l ∧ ¬ (n < s.cfg.nPorts ∧ i < s.cfg.pinCount n)) ∨
       (op = .aRx ∧ s.sensA.cnt = .phase0) ∨
       (∃ b, op = .cXfer b ∧ s.sensC.cnt = .phase0 ∧ (commandFields s.cfg b).start = false) ∨
       (∃ b, op = .cXfer b ∧ s.sensC.cnt = .phase1 ∧ (commandFields s.cfg s.sensC.ptr).start = false))

/-! ## Reads of GPIO -/

/-- R108: `RD` at every register of every port returns the stored word x[9n + r], raises nothing, and changes nothing. -/
def Obligations.PortReadReturnsStoredWord : Prop :=
  ∀ (s : State) (n : Nat) (k : PortReg) (i : Instr), n < s.cfg.nPorts → i.ReadsPort n k →
    exec i s = .next { s with reply := { value := .word (s.gpio.word (9 * n + k.index)), diags := [] } }

/-- R145, R146, R147, R148: `RD` at each global register returns the stored word, raises nothing, and changes nothing:
in particular reading INT_STA clears nothing. -/
def Obligations.GlobalReadReturnsStoredWord : Prop :=
  ∀ s : State, s.cfg.Wf →
    ∀ iw ∈ [(Instr.rdIntCfg0, 128), (Instr.rdIntCfg1, 129), (Instr.rdIntCfg2, 130), (Instr.rdIntCfg3, 131),
            (Instr.rdIntCtl, 132), (Instr.rdIntSta, 133), (Instr.rdIntDeb, 134)],
      exec iw.1 s = .next { s with reply := { value := .word (s.gpio.word iw.2), diags := [] } }

/-- R161: `RD off` at every offset: a mapped one returns x[off div 4], any other returns 0 with one GuestError;
nothing else changes. -/
def Obligations.ReadAtAnyOffset : Prop :=
  ∀ (s : State) (off : Nat) (rest : List Op), s.cfg.Wf → s.pending = .rd 4 off :: rest →
    ∃ r, step s = .next { s with pending := rest, reply := r } ∧
      if off % 4 = 0 ∧ (off < 0x24 * s.cfg.nPorts ∨ (0x200 ≤ off ∧ off ≤ 0x218)) then
        r = { value := .word (s.gpio.word (off / 4)), diags := [] }
      else r = { value := .word 0x00000000, diags := [.guestError off none] }

/-- R163: `RD` at a misaligned or unmapped offset returns the fixed value 0 with one GuestError and changes no state:
the rows RD <misaligned> and RD <unmapped>, and the row of a port register that a block with N < 9 does not have. -/
def Obligations.UnmappedReadReturnsZero : Prop :=
  ∀ (s : State) (off : Nat) (i : Instr),
    (i = .rdMisaligned off ∨ i = .rdUnmapped off ∨ (∃ p k, i = Instr.rdPort p k ∧ off = 0x24 * p.index + 4 * k.index)) →
    (off % 4 ≠ 0 ∨ (0x24 * s.cfg.nPorts ≤ off ∧ ¬ (0x200 ≤ off ∧ off ≤ 0x218))) →
    exec i s = .next { s with reply := { value := .word 0x00000000, diags := [.guestError off none] } }

/-! ## Writes of GPIO -/

/-- R164: `WR` at a misaligned or unmapped offset changes no state and raises one GuestError: the rows WR <misaligned>
and WR <unmapped>, and the row of a port register that a block with N < 9 does not have. That nothing at all is
stored is the spec's own decision D6. -/
def Obligations.UnmappedWriteChangesNothing : Prop :=
  ∀ (s : State) (off : Nat) (v : Word) (i : Instr),
    (i = .wrMisaligned off v ∨ i = .wrUnmapped off v ∨
      (∃ p k, i = Instr.wrPort p k v ∧ off = 0x24 * p.index + 4 * k.index)) →
    (off % 4 ≠ 0 ∨ (0x24 * s.cfg.nPorts ≤ off ∧ ¬ (0x200 ≤ off ∧ off ≤ 0x218))) →
    exec i s = .next { s with reply := { value := .nothing, diags := [.guestError off (some v)] } }

/-- R109: `WR` at every register of every port stores v & mask and no other word but INT_STA; drives the line of every
output pin of the port to its data bit, lowers that of every input pin, and leaves every other line; sets the
status bits that the evaluation of the port raises and clears none; recomputes irq; raises nothing. -/
def Obligations.PortWriteEffect : Prop :=
  ∀ (s : State) (n : Nat) (k : PortReg) (v : Word) (i : Instr), s.cfg.Wf → n < s.cfg.nPorts →
    i.WritesPort n k v →
    ∃ t, exec i s = .next t ∧
      t.gpio.word (9 * n + k.index) = v &&& portMask k (s.cfg.pinCount n) ∧
      (∀ w, w ≠ 9 * n + k.index → w ≠ 133 → t.gpio.word w = s.gpio.word w) ∧
      (∀ j, j < s.cfg.pinCount n →
        t.gpio.line n j =
          if t.gpio.isOutput n j then t.gpio.dat n j
          else if t.gpio.isInput n j then false
          else s.gpio.line n j) ∧
      (∀ m j, m ≠ n ∨ s.cfg.pinCount n ≤ j → t.gpio.line m j = s.gpio.line m j) ∧
      (∀ l : Fin 32, t.gpio.status l = true ↔ (s.gpio.status l = true ∨ t.gpio.portRaises s.cfg n l)) ∧
      t.gpio.irq = ((t.gpio.word 132 &&& t.gpio.word 133) != 0) ∧
      t = { s with gpio := t.gpio, reply := { value := .nothing, diags := [] } }

/-- R23, R101 to R107: a write mask keeps exactly the bits of the fields of pins that exist: the low three bits of
each 4-bit field of CFGj, one bit of DAT, two bits of DRV and PUL. The masks of a partly filled CFG1 to CFG3 are
the spec's own decisions D4 and D5. -/
def Obligations.MaskKeepsFieldsOfExistingPins : Prop :=
  ∀ p b : Nat, 1 ≤ p → p ≤ 32 → b < 32 →
    (∀ kj ∈ [(PortReg.cfg0, 0), (PortReg.cfg1, 1), (PortReg.cfg2, 2), (PortReg.cfg3, 3)],
      (portMask kj.1 p).getLsbD b = decide (b % 4 ≠ 3 ∧ 8 * kj.2 + b / 4 < p)) ∧
    (portMask .dat p).getLsbD b = decide (b < p) ∧
    (∀ kj ∈ [(PortReg.drv0, 0), (PortReg.drv1, 1), (PortReg.pul0, 0), (PortReg.pul1, 1)],
      (portMask kj.1 p).getLsbD b = decide (16 * kj.2 + b / 2 < p))

/-- R113: the seven masks of every capacity from 1 to 32, as the rule's table lists them: CFG0, CFG1, CFG2, CFG3, DAT,
DRV0 and PUL0, DRV1 and PUL1. The table is marked derived by the spec and rests on its decisions D4 and D5. -/
def Obligations.MasksAreTheTable : Prop :=
  (List.range 32).map (fun c => (portMask .cfg0 (c + 1), portMask .cfg1 (c + 1), portMask .cfg2 (c + 1),
      portMask .cfg3 (c + 1), portMask .dat (c + 1), portMask .drv0 (c + 1), portMask .drv1 (c + 1))) =
    [(0x00000007, 0x00000000, 0x00000000, 0x00000000, 0x00000001, 0x00000003, 0x00000000),
     (0x00000077, 0x00000000, 0x00000000, 0x00000000, 0x00000003, 0x0000000F, 0x00000000),
     (0x00000777, 0x00000000, 0x00000000, 0x00000000, 0x00000007, 0x0000003F, 0x00000000),
     (0x00007777, 0x00000000, 0x00000000, 0x00000000, 0x0000000F, 0x000000FF, 0x00000000),
     (0x00077777, 0x00000000, 0x00000000, 0x00000000, 0x0000001F, 0x000003FF, 0x00000000),
     (0x00777777, 0x00000000, 0x00000000, 0x00000000, 0x0000003F, 0x00000FFF, 0x00000000),
     (0x07777777, 0x00000000, 0x00000000, 0x00000000, 0x0000007F, 0x00003FFF, 0x00000000),
     (0x77777777, 0x00000000, 0x00000000, 0x00000000, 0x000000FF, 0x0000FFFF, 0x00000000),
     (0x77777777, 0x00000007, 0x00000000, 0x00000000, 0x000001FF, 0x0003FFFF, 0x00000000),
     (0x77777777, 0x00000077, 0x00000000, 0x00000000, 0x000003FF, 0x000FFFFF, 0x00000000),
     (0x77777777, 0x00000777, 0x00000000, 0x00000000, 0x000007FF, 0x003FFFFF, 0x00000000),
     (0x77777777, 0x00007777, 0x00000000, 0x00000000, 0x00000FFF, 0x00FFFFFF, 0x00000000),
     (0x77777777, 0x00077777, 0x00000000, 0x00000000, 0x00001FFF, 0x03FFFFFF, 0x00000000),
     (0x77777777, 0x00777777, 0x00000000, 0x00000000, 0x00003FFF, 0x0FFFFFFF, 0x00000000),
     (0x77777777, 0x07777777, 0x00000000, 0x00000000, 0x00007FFF, 0x3FFFFFFF, 0x00000000),
     (0x77777777, 0x77777777, 0x00000000, 0x00000000, 0x0000FFFF, 0xFFFFFFFF, 0x00000000),
     (0x77777777, 0x77777777, 0x00000007, 0x00000000, 0x0001FFFF, 0xFFFFFFFF, 0x00000003),
     (0x77777777, 0x77777777, 0x00000077, 0x00000000, 0x0003FFFF, 0xFFFFFFFF, 0x0000000F),
     (0x77777777, 0x77777777, 0x00000777, 0x00000000, 0x0007FFFF, 0xFFFFFFFF, 0x0000003F),
     (0x77777777, 0x77777777, 0x00007777, 0x00000000, 0x000FFFFF, 0xFFFFFFFF, 0x000000FF),
     (0x77777777, 0x77777777, 0x00077777, 0x00000000, 0x001FFFFF, 0xFFFFFFFF, 0x000003FF),
     (0x77777777, 0x77777777, 0x00777777, 0x00000000, 0x003FFFFF, 0xFFFFFFFF, 0x00000FFF),
     (0x77777777, 0x77777777, 0x07777777, 0x00000000, 0x007FFFFF, 0xFFFFFFFF, 0x00003FFF),
     (0x77777777, 0x77777777, 0x77777777, 0x00000000, 0x00FFFFFF, 0xFFFFFFFF, 0x0000FFFF),
     (0x77777777, 0x77777777, 0x77777777, 0x00000007, 0x01FFFFFF, 0xFFFFFFFF, 0x0003FFFF),
     (0x77777777, 0x77777777, 0x77777777, 0x00000077, 0x03FFFFFF, 0xFFFFFFFF, 0x000FFFFF),
     (0x77777777, 0x77777777, 0x77777777, 0x00000777, 0x07FFFFFF, 0xFFFFFFFF, 0x003FFFFF),
     (0x77777777, 0x77777777, 0x77777777, 0x00007777, 0x0FFFFFFF, 0xFFFFFFFF, 0x00FFFFFF),
     (0x77777777, 0x77777777, 0x77777777, 0x00077777, 0x1FFFFFFF, 0xFFFFFFFF, 0x03FFFFFF),
     (0x77777777, 0x77777777, 0x77777777, 0x00777777, 0x3FFFFFFF, 0xFFFFFFFF, 0x0FFFFFFF),
     (0x77777777, 0x77777777, 0x77777777, 0x07777777, 0x7FFFFFFF, 0xFFFFFFFF, 0x3FFFFFFF),
     (0x77777777, 0x77777777, 0x77777777, 0x77777777, 0xFFFFFFFF, 0xFFFFFFFF, 0xFFFFFFFF)] ∧
  ∀ p, portMask .pul0 p = portMask .drv0 p ∧ portMask .pul1 p = portMask .drv1 p

/-- R115: a port register written and read back yields the value ANDed with its mask, and writing that masked value
again leaves the register as it is. -/
def Obligations.PortWordReadsBackMasked : Prop :=
  ∀ (s : State) (n : Nat) (k : PortReg) (v : Word) (iw ir iw' : Instr), s.cfg.Wf → n < s.cfg.nPorts →
    iw.WritesPort n k v → ir.ReadsPort n k → iw'.WritesPort n k (v &&& portMask k (s.cfg.pinCount n)) →
    ∃ t u, exec iw s = .next t ∧
      exec ir t =
        .next { t with reply := { value := .word (v &&& portMask k (s.cfg.pinCount n)), diags := [] } } ∧
      exec iw' t = .next u ∧ u.gpio.word (9 * n + k.index) = t.gpio.word (9 * n + k.index)

/-- R149, R150, R152: `WR` at INT_CFG0..3, INT_CTL and INT_DEB stores all 32 bits and no other word but INT_STA, sets
the status bits that the evaluation of every port raises under the new words and clears none, recomputes irq,
drives no line, and raises nothing. That all 32 bits are stored is the spec's own decision D9. -/
def Obligations.GlobalWriteEffect : Prop :=
  ∀ (s : State) (v : Word), s.cfg.Wf →
    ∀ iw ∈ [(Instr.wrIntCfg0 v, 128), (Instr.wrIntCfg1 v, 129), (Instr.wrIntCfg2 v, 130), (Instr.wrIntCfg3 v, 131),
            (Instr.wrIntCtl v, 132), (Instr.wrIntDeb v, 134)],
      ∃ t, exec iw.1 s = .next t ∧
        t.gpio.word iw.2 = v ∧
        (∀ w, w ≠ iw.2 → w ≠ 133 → t.gpio.word w = s.gpio.word w) ∧
        (∀ l : Fin 32, t.gpio.status l = true ↔ (s.gpio.status l = true ∨ t.gpio.anyRaises s.cfg l)) ∧
        t.gpio.irq = ((t.gpio.word 132 &&& t.gpio.word 133) != 0) ∧
        t.gpio.out = s.gpio.out ∧
        t = { s with gpio := t.gpio, reply := { value := .nothing, diags := [] } }

/-- R151: `WR` at INT_STA clears the bits written as 1 and, where W1C_REEVAL is set, evaluates every port after that;
no other word and no line changes, and irq is recomputed. W1C_REEVAL is an open parameter (decision D10): the
statement gives both behaviours. -/
def Obligations.StatusWriteEffect : Prop :=
  ∀ (s : State) (v : Word), s.cfg.Wf →
    ∃ t, exec (.wrIntSta v) s = .next t ∧
      (s.cfg.w1cReeval = false → t.gpio.word 133 = s.gpio.word 133 &&& ~~~v) ∧
      (s.cfg.w1cReeval = true → ∀ l : Fin 32, t.gpio.status l = true ↔
        ((s.gpio.status l = true ∧ v.getLsbD l.val = false) ∨ s.gpio.anyRaises s.cfg l)) ∧
      (∀ w, w ≠ 133 → t.gpio.word w = s.gpio.word w) ∧
      t.gpio.irq = ((t.gpio.word 132 &&& t.gpio.word 133) != 0) ∧
      t.gpio.out = s.gpio.out ∧
      t = { s with gpio := t.gpio, reply := { value := .nothing, diags := [] } }

/-! ## The trigger engine -/

/-- R139: the firing condition of each mode 0 to 7, at (prior, new) = 00, 01, 10, 11, laid out as in R153. -/
def Obligations.FireIsTheTruthTable : Prop :=
  (List.range 8).map (fun m => (fire (BitVec.ofNat 3 m) false false, fire (BitVec.ofNat 3 m) false true,
      fire (BitVec.ofNat 3 m) true false, fire (BitVec.ofNat 3 m) true true)) =
    [(false, true, false, false), (false, false, true, false), (false, true, false, true), (true, false, true, false),
     (false, true, true, false), (false, false, false, false), (false, false, false, false),
     (false, false, false, false)]

/-- R154: across every operation but `WR 0x214` and RST, INT_STA only gains bits; across `WR 0x214, v` without
W1C_REEVAL it becomes old & ~v. The spec marks this law as derived. -/
def Obligations.StatusBitsAreSticky : Prop :=
  ∀ (s t : State) (op : Op) (rest : List Op), s.cfg.Wf → s.pending = op :: rest → step s = .next t →
    (op ≠ .rst → (∀ v, op ≠ .wr 4 0x214 v) → s.gpio.word 133 &&& ~~~t.gpio.word 133 = 0) ∧
    (∀ v, op = .wr 4 0x214 v → s.cfg.w1cReeval = false → t.gpio.word 133 = s.gpio.word 133 &&& ~~~v)

/-- R141, R274: no bus write fabricates an edge: a status bit that a `WR` at any offset sets belongs to a line whose
mode, after the write, is a level mode. -/
def Obligations.WriteFiresLevelModesOnly : Prop :=
  ∀ (s t : State) (off : Nat) (v : Word) (rest : List Op) (l : Fin 32), s.cfg.Wf →
    s.pending = .wr 4 off v :: rest → step s = .next t →
    s.gpio.status l = false → t.gpio.status l = true → t.gpio.mode l = 2 ∨ t.gpio.mode l = 3

/-- R155, R277: a high-level line fires again at every write to a word of its pin's port while the stored level is 1,
whatever was acknowledged before (here the DRV and PUL words, which leave the level and the direction as they
are). -/
def Obligations.HighLevelFiresAgainOnPortWrite : Prop :=
  ∀ (s : State) (n : Nat) (k : PortReg) (v : Word) (row : Instr) (i : Nat) (l : Fin 32), s.cfg.Wf →
    n < s.cfg.nPorts → k ∈ [PortReg.drv0, PortReg.drv1, PortReg.pul0, PortReg.pul1] → row.WritesPort n k v →
    i < s.cfg.pinCount n → s.cfg.irqLineOf n i = some l → s.gpio.isInput n i = true → s.gpio.mode l = 2 →
    s.gpio.dat n i = true →
    ∃ t, exec row s = .next t ∧ t.gpio.status l = true

/-- R249: acknowledging line L drops the interrupt line if no other enabled status bit is set (W1C_REEVAL false). The
spec marks its sentence on acknowledgment as derived. -/
def Obligations.AcknowledgeDropsTheLine : Prop :=
  ∀ (s : State) (l : Fin 32), s.cfg.Wf → s.cfg.w1cReeval = false →
    s.gpio.word 132 &&& s.gpio.word 133 &&& ~~~((1 : Word) <<< l.val) = 0 →
    ∃ t, exec (.wrIntSta ((1 : Word) <<< l.val)) s = .next t ∧ t.gpio.status l = false ∧ t.gpio.irq = false

/-- R124: every pin is exactly one of input, output and reserved. The spec marks the law as derived. -/
def Obligations.DirectionCodesPartition : Prop :=
  ∀ (g : Gpio) (n i : Nat),
    (g.isInput n i, g.isOutput n i, g.isReserved n i) ∈
      [(true, false, false), (false, true, false), (false, false, true)]

/-! ## The pin stimulus -/

/-- `PIN n, i, l` on a pin of the block stores l in the pin's data bit and nothing in any other bit or word but
INT_STA, sets the status bits that this one pin raises with its stored bit as previous level, recomputes irq, and
leaves every output line (R166); on any other pin it is refused, which is the spec's own decision D14 and in this
form the model's choice (log entry 16). -/
def Obligations.PinStimulusEffect : Prop :=
  ∀ (s : State) (n i : Nat) (l : Bool), s.cfg.Wf →
    (n < s.cfg.nPorts → i < s.cfg.pinCount n →
      ∃ t, exec (.pin n i l) s = .next t ∧
        (∀ j, t.gpio.dat n j = if j = i then l else s.gpio.dat n j) ∧
        (∀ w, w ≠ 9 * n + 4 → w ≠ 133 → t.gpio.word w = s.gpio.word w) ∧
        (∀ m : Fin 32, t.gpio.status m = true ↔
          (s.gpio.status m = true ∨ s.gpio.pinRaises s.cfg n i m (s.gpio.dat n i) l)) ∧
        t.gpio.irq = ((t.gpio.word 132 &&& t.gpio.word 133) != 0) ∧
        t.gpio.out = s.gpio.out ∧
        t = { s with gpio := t.gpio, reply := { value := .nothing, diags := [] } }) ∧
    (¬ (n < s.cfg.nPorts ∧ i < s.cfg.pinCount n) → exec (.pin n i l) s = .refused .pinOutOfRange)

/-- R167, R276: a stimulus on an output pin stores the level, raises no status bit and leaves the output line as it
was; the next write to a DRV or PUL word of the port drives the line to the injected level. -/
def Obligations.StimulatedOutputLineIsStale : Prop :=
  ∀ (s : State) (n : Nat) (k : PortReg) (v : Word) (row : Instr) (i : Nat) (l : Bool), s.cfg.Wf → n < s.cfg.nPorts →
    i < s.cfg.pinCount n → s.gpio.isOutput n i = true →
    k ∈ [PortReg.drv0, PortReg.drv1, PortReg.pul0, PortReg.pul1] → row.WritesPort n k v →
    ∃ t u, exec (.pin n i l) s = .next t ∧
      t.gpio.dat n i = l ∧ t.gpio.word 133 = s.gpio.word 133 ∧ t.gpio.line n i = s.gpio.line n i ∧
      exec row t = .next u ∧ u.gpio.line n i = l

/-- R142: INT_CTL does not gate the setting of status: whatever it holds, a stimulus leaves the same INT_STA. The spec
marks the law as derived. -/
def Obligations.EnableMaskDoesNotGateStatus : Prop :=
  ∀ (s : State) (c : Word) (n i : Nat) (l : Bool), s.cfg.Wf → n < s.cfg.nPorts → i < s.cfg.pinCount n →
    ∃ t t', exec (.pin n i l) s = .next t ∧
      exec (.pin n i l) { s with gpio := s.gpio.setWord 132 c } = .next t' ∧
      t'.gpio.word 133 = t.gpio.word 133 ∧ t'.gpio.word 132 = c

/-- R29, R254: the value in INT_DEB has no effect on a stimulus or on a write to a port: every other word, every line
and irq come out the same. -/
def Obligations.DebounceValueHasNoFunction : Prop :=
  ∀ (s : State) (d : Word) (i : Instr), s.cfg.Wf →
    ((∃ n j l, i = .pin n j l ∧ n < s.cfg.nPorts ∧ j < s.cfg.pinCount n) ∨
     (∃ n k v, i.WritesPort n k v ∧ n < s.cfg.nPorts)) →
    ∃ t t', exec i s = .next t ∧ exec i { s with gpio := s.gpio.setWord 134 d } = .next t' ∧
      (∀ w, w ≠ 134 → t'.gpio.word w = t.gpio.word w) ∧
      (∀ n j, t'.gpio.line n j = t.gpio.line n j) ∧ t'.gpio.irq = t.gpio.irq

/-! ## Reset and invariants of GPIO -/

/-- R170: RST zeroes every word, lowers every output line and irq, and touches nothing else. That RST lowers the lines
is the spec's own decision D13 (log entry 12). -/
def Obligations.GpioResetZeroesEverything : Prop :=
  ∀ s : State, ∃ t, exec .rst s = .next t ∧
    (∀ w, t.gpio.word w = 0x00000000) ∧ (∀ n i, t.gpio.line n i = false) ∧ t.gpio.irq = false ∧
    t = { s with gpio := t.gpio, reply := { value := .nothing, diags := [] } }

/-- R43: the reset state of GPIO: every word 0, so every pin an input with data bit 0 and every line in positive-edge
mode; every output line and irq low. That the lines are low and that a model starts in the reset state is the
spec's own decision D13 (log entry 12). -/
def Obligations.GpioStartsZeroed : Prop :=
  (∀ w, State.reset.gpio.word w = 0x00000000) ∧ (∀ n i, State.reset.gpio.line n i = false) ∧
  State.reset.gpio.irq = false ∧
  (∀ n i, State.reset.gpio.isInput n i = true ∧ State.reset.gpio.dat n i = false) ∧
  ∀ l, State.reset.gpio.mode l = 0

/-- R44: the reset state of each sensor: ID = ID_CONST, CTRL = 0, cursor and counter 0 (TEMPERATURE is not given).
That a model starts in the reset state is the spec's own choice (the last sentence of R188); that ID_CONST is an
opaque constant there is the model's (log entry 11). -/
def Obligations.SensorsStartDisabled : Prop :=
  (State.reset.sensA.id = Config.idConst .a ∧ State.reset.sensA.ctrl = 0x00 ∧ State.reset.sensA.ptr = 0x00 ∧
    State.reset.sensA.cnt = .phase0) ∧
  (State.reset.sensC.id = Config.idConst .c ∧ State.reset.sensC.ctrl = 0x00 ∧ State.reset.sensC.ptr = 0x00 ∧
    State.reset.sensC.cnt = .phase0)

/-- The reset state meets the invariants of GPIO (R33, R130), with parameters in range. The parameters of the reset
state are presumed (log entry 10), that the storage of what is no register is there and 0 is the model's choice
(log entry 8), and that the lines are low at reset is the spec's own decision D13 (log entry 12). -/
def Obligations.ResetMeetsGpioInvariants : Prop :=
  State.reset.cfg.Wf ∧ State.reset.gpio.Inv State.reset.cfg ∧ State.reset.gpio.InputsLow State.reset.cfg ∧
    State.reset.gpio.VoidsZero State.reset.cfg

/-- R33: every step keeps the three invariants of GPIO: port words inside their masks, irq equal to the aggregate, the
status bits of unmapped lines 0. The spec marks the invariant as derived. -/
def Obligations.StepKeepsGpioInvariant : Prop :=
  ∀ s t : State, s.cfg.Wf → s.gpio.Inv s.cfg → step s = .next t → t.cfg.Wf ∧ t.gpio.Inv t.cfg

/-- R130: every step keeps the output line of every input pin low. The spec marks the law as derived; lines as latches
are its decision D12. -/
def Obligations.StepKeepsInputLinesLow : Prop :=
  ∀ s t : State, s.cfg.Wf → s.gpio.InputsLow s.cfg → step s = .next t → t.gpio.InputsLow t.cfg

/-- R20, R30: every step keeps at 0 what is no register and no line of a pin. The storage of what is no register is
the model's own (log entry 8). -/
def Obligations.StepKeepsVoidsZero : Prop :=
  ∀ s t : State, s.cfg.Wf → s.gpio.VoidsZero s.cfg → step s = .next t → t.gpio.VoidsZero t.cfg

/-- R9, R42: no operation changes a parameter. -/
def Obligations.ParametersNeverChange : Prop :=
  ∀ s t : State, step s = .next t → t.cfg = s.cfg

/-! ## The three devices -/

/-- R1, R47: an operation on one device changes no other device. -/
def Obligations.OperationTouchesItsDeviceOnly : Prop :=
  ∀ (s t : State) (op : Op) (rest : List Op) (d : Device), s.pending = op :: rest → step s = .next t →
    d ≠ deviceOf op → t.AgreeOn d s

/-- R1, R63: what an operation does to its device, and what it answers, depends on that device (and the parameters)
alone: two states that agree there are stepped to states that agree there, or both refused. The free values are
the same function of the draw counter in both (log entry 4). -/
def Obligations.DeviceSeesItselfOnly : Prop :=
  ∀ (s s' : State) (op : Op) (rest rest' : List Op), s.cfg = s'.cfg → s.AgreeOn (deviceOf op) s' →
    s.pending = op :: rest → s'.pending = op :: rest' →
    (∀ t, step s = .next t → ∃ t', step s' = .next t' ∧ t.AgreeOn (deviceOf op) t' ∧ t.reply = t'.reply) ∧
    (∀ r, step s = .refused r → step s' = .refused r)

/-- Operations on different devices commute. The two orders are two runs that draw the same free values, the model's
choice (log entry 4): hardware need not draw the same TEMPERATURE in both. The spec marks the rule as derived. -/
def Obligations.DifferentDevicesCommute : Prop :=
  ∀ (s t : State) (a b : Op), deviceOf a ≠ deviceOf b →
    steps 2 { s with pending := [a, b] } = .next t →
    ∃ u, steps 2 { s with pending := [b, a] } = .next u ∧
      u.cfg = t.cfg ∧ u.gpio = t.gpio ∧ u.sensA = t.sensA ∧ u.sensC = t.sensC

/-! ## The sensors: reset and framing -/

/-- R188: the reset of a sensor sets ID, CTRL, the cursor and the counter (TEMPERATURE after it is not given), and
changes nothing outside the sensor. TEMPERATURE after reset is unspecified (decision D22). -/
def Obligations.SensorResetEffect : Prop :=
  ∀ s : State,
    (∃ t, exec .aRst s = .next t ∧ t.sensA.id = s.cfg.sensA.idConst ∧ t.sensA.ctrl = 0x00 ∧ t.sensA.ptr = 0x00 ∧
      t.sensA.cnt = .phase0 ∧ t = { s with sensA := t.sensA, reply := { value := .nothing, diags := [] } }) ∧
    (∃ t, exec .cRst s = .next t ∧ t.sensC.id = s.cfg.sensC.idConst ∧ t.sensC.ctrl = 0x00 ∧ t.sensC.ptr = 0x00 ∧
      t.sensC.cnt = .phase0 ∧ t = { s with sensC := t.sensC, reply := { value := .nothing, diags := [] } })

/-- R189, R191: a frame start sets the cursor and the counter to 0 and nothing else, CTRL in particular not; a frame
end changes nothing. That a frame end changes nothing is the spec's own decision D29. -/
def Obligations.FramingEffect : Prop :=
  ∀ s : State,
    exec .aSel s = .next { s with
      sensA := { s.sensA with ptr := 0x00, cnt := .phase0 }, reply := { value := .nothing, diags := [] } } ∧
    exec .cSel s = .next { s with
      sensC := { s.sensC with ptr := 0x00, cnt := .phase0 }, reply := { value := .nothing, diags := [] } } ∧
    exec .aDesel s = .next { s with reply := { value := .nothing, diags := [] } } ∧
    exec .cDesel s = .next { s with reply := { value := .nothing, diags := [] } }

/-! ## The sensors: SENS_A. A row of A.TX or A.RX is named through the operation that it stands for. -/

/-- R201: `A.TX b` with cnt = 0 stores b as the pointer, whatever it names, and raises nothing. That a pointer of 3 or
more is stored without a diagnostic is the spec's own decision D42. -/
def Obligations.PointerByteEffect : Prop :=
  ∀ (s : State) (i : Instr) (b : Byte), encode i = .aTx b → s.sensA.cnt = .phase0 →
    exec i s = .next { s with
      sensA := { s.sensA with ptr := b, cnt := .phase1 }, reply := { value := .nothing, diags := [] } }

/-- R202: `A.TX b` with cnt = 1 writes b, under CTRL_WMASK, to CTRL if the pointer is 1; with any other pointer it
changes no register and raises WriteRejected. -/
def Obligations.AddressedWriteEffect : Prop :=
  ∀ (s : State) (i : Instr) (b : Byte), encode i = .aTx b → s.sensA.cnt = .phase1 →
    exec i s =
      if s.sensA.ptr = 0x01 then
        .next { s with
          sensA := { s.sensA with ctrl := b &&& s.cfg.sensA.ctrlWMask, cnt := .used }
          reply := { value := .nothing, diags := [] } }
      else
        .next { s with sensA := { s.sensA with cnt := .used }, reply := { value := .nothing, diags := [.writeRejected] } }

/-- R203: `A.TX b` with cnt = 2 changes nothing and raises Oversized. -/
def Obligations.AddressedOversizedWrite : Prop :=
  ∀ (s : State) (i : Instr) (b : Byte), encode i = .aTx b → s.sensA.cnt = .used →
    exec i s = .next { s with reply := { value := .nothing, diags := [.oversized] } }

/-- R204: `A.RX` as the first byte of a frame is refused. The refusal is the spec's own decision D24; its form is the
model's choice (log entry 16). -/
def Obligations.FirstByteReadRefused : Prop :=
  ∀ (s : State) (i : Instr), encode i = .aRx → s.sensA.cnt = .phase0 → exec i s = .refused .readBeforePointer

/-- R205, R186: `A.RX` with cnt = 1 returns ID, CTRL, or a freshly stored TEMPERATURE (a member of MEAS_SET if
enabled, else 0xFF) by the pointer, or for a pointer of 3 or more some byte with ReadNonexistent; beyond
TEMPERATURE only cnt (and the model's draw counter) changes. -/
def Obligations.AddressedReadEffect : Prop :=
  ∀ (s : State) (i : Instr), encode i = .aRx → s.sensA.cnt = .phase1 →
    ∃ t b, exec i s = .next t ∧
      t = { s with
        sensA := { s.sensA with temp := t.sensA.temp, cnt := .used, draws := t.sensA.draws }
        reply := { value := .byte b, diags := if 3 ≤ s.sensA.ptr.toNat then [.readNonexistent] else [] } } ∧
      (s.sensA.ptr = 0x00 → b = s.sensA.id) ∧
      (s.sensA.ptr = 0x01 → b = s.sensA.ctrl) ∧
      (s.sensA.ptr = 0x02 → b = t.sensA.temp ∧
        if s.sensA.ctrl.getLsbD 0 then b ∈ s.cfg.sensA.measSet else b = 0xFF) ∧
      (s.sensA.ptr ≠ 0x02 → t.sensA.temp = s.sensA.temp)

/-- R206: `A.RX` with cnt = 2 changes nothing (but the model's draw counter), raises Oversized, and returns some byte. -/
def Obligations.AddressedOversizedRead : Prop :=
  ∀ (s : State) (i : Instr), encode i = .aRx → s.sensA.cnt = .used →
    ∃ b k, exec i s = .next { s with
      sensA := { s.sensA with draws := k }, reply := { value := .byte b, diags := [.oversized] } }

/-! ## The sensors: SENS_C. A row of C.XFER is named through the byte that it exchanges. -/

/-- R218: `C.XFER c` with cnt = 0 and the start flag set stores c as the cursor, refreshes TEMPERATURE if c reads it,
goes to cnt = 1, returns some byte, and raises nothing. That the byte returned is free and that validity is judged
in phase 1 are the spec's own decisions D27 and D42. -/
def Obligations.CommandByteEffect : Prop :=
  ∀ (s : State) (i : Instr) (c : Byte), encode i = .cXfer c → s.sensC.cnt = .phase0 →
    (commandFields s.cfg c).start = true →
    ∃ t b, exec i s = .next t ∧
      t = { s with
        sensC := { s.sensC with ptr := c, temp := t.sensC.temp, cnt := .phase1, draws := t.sensC.draws }
        reply := { value := .byte b, diags := [] } } ∧
      if (commandFields s.cfg c).isRead = true ∧ (commandFields s.cfg c).reg = 2 then
        if s.sensC.ctrl.getLsbD 0 then t.sensC.temp ∈ s.cfg.sensC.measSet else t.sensC.temp = 0xFF
      else t.sensC.temp = s.sensC.temp

/-- R219: `C.XFER c` with cnt = 0 and the start flag clear is refused. The refusal is the spec's own decision D26; its
form is the model's choice (log entry 16). -/
def Obligations.CommandWithoutStartRefused : Prop :=
  ∀ (s : State) (i : Instr) (c : Byte), encode i = .cXfer c → s.sensC.cnt = .phase0 →
    (commandFields s.cfg c).start = false → exec i s = .refused .startFlagClear

/-- R225, U28: `C.XFER` with cnt = 1 and a cursor whose start flag is clear, which no run reaches, is refused. The
refusal is the treatment that the spec's list of open behaviours gives under U28; its form is the model's choice
(log entry 16). -/
def Obligations.DataWithoutStartRefused : Prop :=
  ∀ (s : State) (i : Instr) (d : Byte), encode i = .cXfer d → s.sensC.cnt = .phase1 →
    (commandFields s.cfg s.sensC.ptr).start = false → exec i s = .refused .dataWithoutStart

/-- R220: `C.XFER d` with cnt = 1 in a read transaction ignores d and returns ID, CTRL or TEMPERATURE by the command's
index, or for an index of 3 or more some byte with ReadNonexistent; only cnt (and the model's draw counter)
changes. -/
def Obligations.CommandReadDataEffect : Prop :=
  ∀ (s : State) (i : Instr) (d : Byte), encode i = .cXfer d → s.sensC.cnt = .phase1 →
    (commandFields s.cfg s.sensC.ptr).start = true → (commandFields s.cfg s.sensC.ptr).isRead = true →
    ∃ b k, exec i s = .next { s with
        sensC := { s.sensC with cnt := .used, draws := k }
        reply := { value := .byte b,
                   diags := if 3 ≤ (commandFields s.cfg s.sensC.ptr).reg then [.readNonexistent] else [] } } ∧
      ((commandFields s.cfg s.sensC.ptr).reg = 0 → b = s.sensC.id) ∧
      ((commandFields s.cfg s.sensC.ptr).reg = 1 → b = s.sensC.ctrl) ∧
      ((commandFields s.cfg s.sensC.ptr).reg = 2 → b = s.sensC.temp)

/-- R221: `C.XFER d` with cnt = 1 in a write transaction writes d, under CTRL_WMASK, to CTRL if the command's index is
1, and otherwise changes no register and raises WriteRejected; it returns some byte. That the byte returned is
free is the spec's own decision D27. -/
def Obligations.CommandWriteDataEffect : Prop :=
  ∀ (s : State) (i : Instr) (d : Byte), encode i = .cXfer d → s.sensC.cnt = .phase1 →
    (commandFields s.cfg s.sensC.ptr).start = true → (commandFields s.cfg s.sensC.ptr).isRead = false →
    ∃ b k, exec i s =
      if (commandFields s.cfg s.sensC.ptr).reg = 1 then
        .next { s with
          sensC := { s.sensC with ctrl := d &&& s.cfg.sensC.ctrlWMask, cnt := .used, draws := k }
          reply := { value := .byte b, diags := [] } }
      else
        .next { s with
          sensC := { s.sensC with cnt := .used, draws := k }
          reply := { value := .byte b, diags := [.writeRejected] } }

/-- R222: `C.XFER b` with cnt = 2 changes nothing (but the model's draw counter), raises Oversized, and returns some
byte; it is not taken as a command. -/
def Obligations.CommandOversizedEffect : Prop :=
  ∀ (s : State) (i : Instr) (c : Byte), encode i = .cXfer c → s.sensC.cnt = .used →
    ∃ b k, exec i s = .next { s with
      sensC := { s.sensC with draws := k }, reply := { value := .byte b, diags := [.oversized] } }

/-- R13, R84: under the default layout the command rows of the opcode table carry a start flag, the row's direction
and the row's register index, and the third row no start flag. The default layout is the spec's own decision D25. -/
def Obligations.DefaultLayoutOfTheCommandRows : Prop :=
  ∀ cfg : Params, cfg.layout = [] → ∀ (i : Instr) (c : Byte), encode i = .cXfer c →
    (∀ r, i = .cXferReadCommand r → commandFields cfg c = { start := true, isRead := true, reg := r.toNat }) ∧
    (∀ r, i = .cXferWriteCommand r → commandFields cfg c = { start := true, isRead := false, reg := r.toNat }) ∧
    (∀ x, i = .cXferStartFlagClear x → (commandFields cfg c).start = false)

/-! ## The sensors: transactions, invariants and whole-machine rules -/

/-- R194: on SENS_A, from every state: after a reset a read transaction on ID returns ID_CONST and one on TEMPERATURE
returns 0xFF; after a write transaction on CTRL, one on TEMPERATURE returns a member of MEAS_SET if bit 0 was set,
else 0xFF; a write transaction on ID or TEMPERATURE changes no register. The spec marks the laws as derived. -/
def Obligations.AddressedTransactions : Prop :=
  ∀ (s : State) (b : Byte),
    (∃ t, steps 4 { s with pending := [.aRst, .aSel, .aTx 0x00, .aRx] } = .next t ∧
      t.reply = { value := .byte s.cfg.sensA.idConst, diags := [] }) ∧
    (∃ t, steps 4 { s with pending := [.aRst, .aSel, .aTx 0x02, .aRx] } = .next t ∧
      t.reply = { value := .byte 0xFF, diags := [] }) ∧
    (∃ t m, steps 7 { s with pending := [.aSel, .aTx 0x01, .aTx b, .aDesel, .aSel, .aTx 0x02, .aRx] } = .next t ∧
      t.reply = { value := .byte m, diags := [] } ∧
      if b.getLsbD 0 then m ∈ s.cfg.sensA.measSet else m = 0xFF) ∧
    ∀ r : Byte, r = 0x00 ∨ r = 0x02 →
      ∃ t, steps 4 { s with pending := [.aSel, .aTx r, .aTx b, .aDesel] } = .next t ∧
        t.sensA.id = s.sensA.id ∧ t.sensA.ctrl = s.sensA.ctrl ∧ t.sensA.temp = s.sensA.temp

/-- R194: on SENS_C, from every state, in the command bytes of the default layout: after a reset a read transaction on
ID returns ID_CONST and one on TEMPERATURE returns 0xFF; after a write transaction on CTRL, one on TEMPERATURE
returns a member of MEAS_SET if bit 0 was set, else 0xFF; a write transaction on ID or TEMPERATURE changes no
register. The spec marks the laws as derived; the default layout is its decision D25. -/
def Obligations.CommandTransactions : Prop :=
  ∀ (s : State) (b d : Byte), s.cfg.layout = [] →
    (∃ t, steps 4 { s with pending := [.cRst, .cSel, .cXfer 0xC0, .cXfer d] } = .next t ∧
      t.reply = { value := .byte s.cfg.sensC.idConst, diags := [] }) ∧
    (∃ t, steps 4 { s with pending := [.cRst, .cSel, .cXfer 0xC2, .cXfer d] } = .next t ∧
      t.reply = { value := .byte 0xFF, diags := [] }) ∧
    (∃ t m, steps 7 { s with
        pending := [.cSel, .cXfer 0x81, .cXfer b, .cDesel, .cSel, .cXfer 0xC2, .cXfer d] } = .next t ∧
      t.reply = { value := .byte m, diags := [] } ∧
      if b.getLsbD 0 then m ∈ s.cfg.sensC.measSet else m = 0xFF) ∧
    ∀ c : Byte, c = 0x80 ∨ c = 0x82 →
      ∃ t, steps 4 { s with pending := [.cSel, .cXfer c, .cXfer b, .cDesel] } = .next t ∧
        t.sensC.id = s.sensC.id ∧ t.sensC.ctrl = s.sensC.ctrl ∧ t.sensC.temp = s.sensC.temp

/-- R182, R192, R225: the reset state meets the sensors' invariants. -/
def Obligations.ResetMeetsSensorInvariants : Prop :=
  State.reset.sensA.Inv State.reset.cfg.sensA ∧ State.reset.sensC.Inv State.reset.cfg.sensC ∧
    State.reset.sensC.Started State.reset.cfg

/-- R182, R192, R225: every step keeps the sensors' invariants: ID holds ID_CONST, CTRL nothing outside CTRL_WMASK,
the cursor is 0 while cnt = 0, and SENS_C waits for data only after a command with its start flag set. -/
def Obligations.StepKeepsSensorInvariants : Prop :=
  ∀ s t : State, s.sensA.Inv s.cfg.sensA → s.sensC.Inv s.cfg.sensC → s.sensC.Started s.cfg → step s = .next t →
    t.sensA.Inv t.cfg.sensA ∧ t.sensC.Inv t.cfg.sensC ∧ t.sensC.Started t.cfg

/-- R183: CTRL of a sensor changes only in its reset and in a data byte written to index 1. -/
def Obligations.ControlChangesOnlyByItsWrite : Prop :=
  ∀ (s t : State) (op : Op) (rest : List Op), s.pending = op :: rest → step s = .next t →
    (t.sensA.ctrl ≠ s.sensA.ctrl →
      op = .aRst ∨ ∃ b, op = .aTx b ∧ s.sensA.cnt = .phase1 ∧ s.sensA.ptr = 0x01) ∧
    (t.sensC.ctrl ≠ s.sensC.ctrl →
      op = .cRst ∨ ∃ b, op = .cXfer b ∧ s.sensC.cnt = .phase1 ∧
        (commandFields s.cfg s.sensC.ptr).isRead = false ∧ (commandFields s.cfg s.sensC.ptr).reg = 1)

/-- R243: an operation raises at most one diagnostic. The spec marks the rule as derived. -/
def Obligations.AtMostOneDiagnostic : Prop :=
  ∀ (i : Instr) (s t : State), exec i s = .next t → t.reply.diags.length ≤ 1
end

