-- ==== Sys2Proof/Laws/State.lean ====
section
/-! SUPPORT. One lemma per field per update of the state, true by rfl. -/

namespace Sys2Proof.Machine

section answer
variable (s : State) (r : Ret) (ds : List Diag)
@[simp] theorem State.answer_cfg : (s.answer r ds).cfg = s.cfg := rfl
@[simp] theorem State.answer_gpio : (s.answer r ds).gpio = s.gpio := rfl
@[simp] theorem State.answer_sensA : (s.answer r ds).sensA = s.sensA := rfl
@[simp] theorem State.answer_sensC : (s.answer r ds).sensC = s.sensC := rfl
@[simp] theorem State.answer_reply : (s.answer r ds).reply = { value := r, diags := ds } := rfl
@[simp] theorem State.answer_pending : (s.answer r ds).pending = s.pending := rfl
end answer

section setGpio
variable (s : State) (g : Gpio)
@[simp] theorem State.setGpio_cfg : (s.setGpio g).cfg = s.cfg := rfl
@[simp] theorem State.setGpio_gpio : (s.setGpio g).gpio = g := rfl
@[simp] theorem State.setGpio_sensA : (s.setGpio g).sensA = s.sensA := rfl
@[simp] theorem State.setGpio_sensC : (s.setGpio g).sensC = s.sensC := rfl
@[simp] theorem State.setGpio_reply : (s.setGpio g).reply = s.reply := rfl
@[simp] theorem State.setGpio_pending : (s.setGpio g).pending = s.pending := rfl
end setGpio

section setSens
variable (s : State) (d : Sensor)
@[simp] theorem State.setSensA_cfg : (s.setSensA d).cfg = s.cfg := rfl
@[simp] theorem State.setSensA_gpio : (s.setSensA d).gpio = s.gpio := rfl
@[simp] theorem State.setSensA_sensA : (s.setSensA d).sensA = d := rfl
@[simp] theorem State.setSensA_sensC : (s.setSensA d).sensC = s.sensC := rfl
@[simp] theorem State.setSensA_reply : (s.setSensA d).reply = s.reply := rfl
@[simp] theorem State.setSensA_pending : (s.setSensA d).pending = s.pending := rfl
@[simp] theorem State.setSensC_cfg : (s.setSensC d).cfg = s.cfg := rfl
@[simp] theorem State.setSensC_gpio : (s.setSensC d).gpio = s.gpio := rfl
@[simp] theorem State.setSensC_sensA : (s.setSensC d).sensA = s.sensA := rfl
@[simp] theorem State.setSensC_sensC : (s.setSensC d).sensC = d := rfl
@[simp] theorem State.setSensC_reply : (s.setSensC d).reply = s.reply := rfl
@[simp] theorem State.setSensC_pending : (s.setSensC d).pending = s.pending := rfl
end setSens

section gpio
variable (g : Gpio) (w : Nat) (v : Word) (n i : Nat) (b : Bool)
@[simp] theorem Gpio.setWord_out : (g.setWord w v).out = g.out := rfl
@[simp] theorem Gpio.setWord_irq : (g.setWord w v).irq = g.irq := rfl
@[simp] theorem Gpio.setLine_x : (g.setLine n i b).x = g.x := rfl
@[simp] theorem Gpio.setLine_irq : (g.setLine n i b).irq = g.irq := rfl
@[simp] theorem Gpio.updateIrq_x : g.updateIrq.x = g.x := rfl
@[simp] theorem Gpio.updateIrq_out : g.updateIrq.out = g.out := rfl
@[simp] theorem Gpio.updateIrq_irq : g.updateIrq.irq = g.aggregate := rfl
end gpio

section sensor
variable (d : Sensor)
@[simp] theorem Sensor.frameStart_id : d.frameStart.id = d.id := rfl
@[simp] theorem Sensor.frameStart_ctrl : d.frameStart.ctrl = d.ctrl := rfl
@[simp] theorem Sensor.frameStart_temp : d.frameStart.temp = d.temp := rfl
@[simp] theorem Sensor.frameStart_ptr : d.frameStart.ptr = 0x00 := rfl
@[simp] theorem Sensor.frameStart_cnt : d.frameStart.cnt = .phase0 := rfl
@[simp] theorem Sensor.frameStart_draws : d.frameStart.draws = d.draws := rfl
end sensor

end Sys2Proof.Machine
end

