-- ==== Sys2Proof/Laws/Gpio.lean ====
section
/-! SUPPORT. What each shared operation on GPIO does, said once: the access to a word and to a line, the trigger engine,
the output rule. -/

namespace Sys2Proof.Machine

theorem getLsbD_putBit (w : Word) (i j : Nat) (b : Bool) :
    (putBit w i b).getLsbD j = if j = i ∧ i < 32 then b else w.getLsbD j := by
  unfold putBit
  by_cases hj : j < 32
  · by_cases h : j = i
    · subst h
      cases b <;> simp [hj]
    · have h1 : (j < i ∨ j - i ≠ 0) := by omega
      cases b <;> simp [hj, h] <;> rcases h1 with h1 | h1 <;> simp [h1]
  · have : ¬ (j = i ∧ i < 32) := by omega
    simp [this, BitVec.getLsbD_of_ge _ _ (Nat.le_of_not_lt hj)]

theorem Gpio.word_of_ge (g : Gpio) {w : Nat} (h : 135 ≤ w) : g.word w = 0 := by
  have hl : g.x.toList.length = 135 := by simp
  unfold Gpio.word
  rw [List.getD_eq_default _ _ (by omega)]

theorem Gpio.word_setWord (g : Gpio) (w w' : Nat) (v : Word) :
    (g.setWord w v).word w' = if w' = w ∧ w < 135 then v else g.word w' := by
  have hl : g.x.toList.length = 135 := by simp
  simp only [Gpio.word, Gpio.setWord, Vector.toList, List.getD_eq_getElem?_getD, List.getElem?_set]
  simp only [Vector.toList] at hl
  by_cases h : w = w'
  · subst h
    by_cases hw : w < 135
    · simp [hw]
    · simp [hw]
  · simp [h, Ne.symm h]

theorem Gpio.line_setLine (g : Gpio) (n i n' i' : Nat) (b : Bool) :
    (g.setLine n i b).line n' i' =
      if n' = n ∧ i' = i ∧ n < 14 ∧ i < 32 then b else g.line n' i' := by
  simp only [Gpio.line, Gpio.setLine, Vector.toList, List.getD_eq_getElem?_getD, List.getElem?_set]
  by_cases h : n = n'
  · subst h
    by_cases hn : n < 14
    · simp [hn, getLsbD_putBit]
    · simp [hn]
  · simp [h, Ne.symm h]

@[simp] theorem Gpio.word_updateIrq (g : Gpio) (w : Nat) : g.updateIrq.word w = g.word w := rfl
@[simp] theorem Gpio.line_updateIrq (g : Gpio) (n i : Nat) : g.updateIrq.line n i = g.line n i := rfl
@[simp] theorem Gpio.line_setWord (g : Gpio) (w : Nat) (v : Word) (n i : Nat) :
    (g.setWord w v).line n i = g.line n i := rfl
@[simp] theorem Gpio.word_setLine (g : Gpio) (n i : Nat) (b : Bool) (w : Nat) :
    (g.setLine n i b).word w = g.word w := rfl

/-- R170: every word is 0 after a reset. -/
@[simp] theorem Gpio.word_reset (w : Nat) : Gpio.reset.word w = 0 := by
  have h : Gpio.reset.x.toList = List.replicate 135 0 := rfl
  unfold Gpio.word
  rw [h, List.getD_eq_getElem?_getD, List.getElem?_replicate]
  split <;> rfl

/-- R170: every output line is low after a reset. -/
@[simp] theorem Gpio.line_reset (n i : Nat) : Gpio.reset.line n i = false := by
  have h : Gpio.reset.out.toList = List.replicate 14 0 := rfl
  unfold Gpio.line
  rw [h, List.getD_eq_getElem?_getD, List.getElem?_replicate]
  split <;> simp

/-- `h` differs from `g` in INT_STA alone. -/
def Gpio.SameButStatus (g h : Gpio) : Prop :=
  (∀ w, w ≠ intStaIdx → h.word w = g.word w) ∧ h.out = g.out ∧ h.irq = g.irq

theorem Gpio.SameButStatus.refl (g : Gpio) : g.SameButStatus g := ⟨fun _ _ => rfl, rfl, rfl⟩

theorem Gpio.SameButStatus.trans {g h k : Gpio} (a : g.SameButStatus h) (b : h.SameButStatus k) :
    g.SameButStatus k :=
  ⟨fun w hw => (b.1 w hw).trans (a.1 w hw), b.2.1.trans a.2.1, b.2.2.trans a.2.2⟩

theorem Gpio.SameButStatus.mode {g h : Gpio} (a : g.SameButStatus h) (l : Fin 32) : h.mode l = g.mode l := by
  unfold Gpio.mode
  rw [a.1 _ (by unfold intCfgIdx intStaIdx; omega)]

theorem Gpio.SameButStatus.cfgField {g h : Gpio} (a : g.SameButStatus h) (n : Nat) {i : Nat} (hi : i < 32) :
    h.cfgField n i = g.cfgField n i := by
  unfold Gpio.cfgField
  rw [a.1 _ (by unfold cfgIdx intStaIdx; omega)]

theorem Gpio.SameButStatus.dat {g h : Gpio} (a : g.SameButStatus h) (n i : Nat) : h.dat n i = g.dat n i := by
  unfold Gpio.dat
  rw [a.1 _ (by unfold datIdx intStaIdx; omega)]

theorem Gpio.SameButStatus.pinRaises {g h : Gpio} (a : g.SameButStatus h) (cfg : Params) (n : Nat) {i : Nat}
    (hi : i < 32) (l : Fin 32) (prior new : Bool) :
    h.pinRaises cfg n i l prior new ↔ g.pinRaises cfg n i l prior new := by
  unfold Gpio.pinRaises Gpio.isInput
  rw [a.mode, a.cfgField n hi]

/-- R138: what one evaluation does: INT_STA alone may change, and bit l of it is set exactly when the pin raises l. -/
theorem Gpio.evalPin_spec (cfg : Params) (g : Gpio) (n i : Nat) (prior new : Bool) :
    g.SameButStatus (Gpio.evalPin cfg n i prior new g) ∧
    ∀ l : Fin 32, (Gpio.evalPin cfg n i prior new g).status l = true ↔
      (g.status l = true ∨ g.pinRaises cfg n i l prior new) := by
  unfold Gpio.evalPin Gpio.pinRaises
  cases hl : cfg.irqLineOf n i with
  | none => simp [Gpio.SameButStatus.refl]
  | some m =>
    by_cases hi : g.isInput n i = true
    · by_cases hf : fire (g.mode m) prior new = true
      · simp only [hi, hf, if_true]
        refine ⟨⟨fun w hw => ?_, rfl, rfl⟩, fun l => ?_⟩
        · simp [Gpio.setStatus, Gpio.word_setWord, hw]
        · simp only [Gpio.setStatus, Gpio.status, Gpio.word_setWord, intStaIdx]
          by_cases hlm : m = l
          · subst hlm
            simp [hf]
          · have hne : m.val ≠ l.val := fun h => hlm (Fin.ext h)
            simp [hlm]
            omega
      · simp only [hi, hf, if_true, if_false, Bool.false_eq_true]
        refine ⟨Gpio.SameButStatus.refl g, fun l => ⟨Or.inl, ?_⟩⟩
        rintro (h | ⟨h, -, h'⟩)
        · exact h
        · cases h; exact absurd h' hf
    · simp [hi, Gpio.SameButStatus.refl]

/-- A fold of evaluations over pins, each with levels that the stored words give. -/
theorem Gpio.foldl_evalPin_spec (cfg : Params) (n : Nat) (is : List Nat) (his : ∀ i ∈ is, i < 32) (g : Gpio) :
    g.SameButStatus (is.foldl (fun g i => Gpio.evalPin cfg n i (g.dat n i) (g.dat n i) g) g) ∧
    ∀ l : Fin 32, (is.foldl (fun g i => Gpio.evalPin cfg n i (g.dat n i) (g.dat n i) g) g).status l = true ↔
      (g.status l = true ∨ ∃ i ∈ is, g.pinRaises cfg n i l (g.dat n i) (g.dat n i)) := by
  induction is generalizing g with
  | nil => exact ⟨Gpio.SameButStatus.refl g, fun l => by simp⟩
  | cons i is ih =>
    have hp := Gpio.evalPin_spec cfg g n i (g.dat n i) (g.dat n i)
    have ht := ih (fun j hj => his j (List.mem_cons_of_mem _ hj)) (Gpio.evalPin cfg n i (g.dat n i) (g.dat n i) g)
    refine ⟨hp.1.trans ht.1, fun l => ?_⟩
    rw [List.foldl_cons, ht.2 l, hp.2 l, or_assoc]
    refine or_congr_right ⟨?_, ?_⟩
    · rintro (h | ⟨j, hj, h⟩)
      · exact ⟨i, List.mem_cons_self, h⟩
      · rw [hp.1.dat, hp.1.pinRaises cfg n (his j (List.mem_cons_of_mem _ hj))] at h
        exact ⟨j, List.mem_cons_of_mem _ hj, h⟩
    · rintro ⟨j, hj, h⟩
      rcases List.mem_cons.mp hj with rfl | hj
      · exact Or.inl h
      · refine Or.inr ⟨j, hj, ?_⟩
        rw [hp.1.dat, hp.1.pinRaises cfg n (his j (List.mem_cons_of_mem _ hj))]
        exact h

theorem pinCount_le (cfg : Params) (h : cfg.Wf) (n : Nat) : cfg.pinCount n ≤ 32 := by
  unfold Params.pinCount
  rw [List.getD_eq_getElem?_getD]
  cases hg : cfg.pins[n]? with
  | none => simp
  | some c => exact (h.2.1 c (List.mem_of_getElem? hg)).2

/-- R141: what the evaluation of a port does. -/
theorem Gpio.evalPort_spec (cfg : Params) (h : cfg.Wf) (n : Nat) (g : Gpio) :
    g.SameButStatus (Gpio.evalPort cfg n g) ∧
    ∀ l : Fin 32, (Gpio.evalPort cfg n g).status l = true ↔ (g.status l = true ∨ g.portRaises cfg n l) := by
  have hp := pinCount_le cfg h n
  have hs := Gpio.foldl_evalPin_spec cfg n (List.range (cfg.pinCount n))
    (fun i hi => lt_of_lt_of_le (List.mem_range.mp hi) hp) g
  refine ⟨hs.1, fun l => (hs.2 l).trans (or_congr_right ?_)⟩
  simp only [List.mem_range, Gpio.portRaises]

theorem Gpio.SameButStatus.portRaises {g k : Gpio} (a : g.SameButStatus k) (cfg : Params) (h : cfg.Wf) (n : Nat)
    (l : Fin 32) : k.portRaises cfg n l ↔ g.portRaises cfg n l := by
  have hp := pinCount_le cfg h n
  constructor <;> rintro ⟨i, hi, hr⟩ <;> refine ⟨i, hi, ?_⟩
  · rwa [a.dat, a.pinRaises cfg n (by omega)] at hr
  · rwa [a.dat, a.pinRaises cfg n (by omega)]

theorem Gpio.foldl_evalPort_spec (cfg : Params) (h : cfg.Wf) (ns : List Nat) (g : Gpio) :
    g.SameButStatus (ns.foldl (fun g n => Gpio.evalPort cfg n g) g) ∧
    ∀ l : Fin 32, (ns.foldl (fun g n => Gpio.evalPort cfg n g) g).status l = true ↔
      (g.status l = true ∨ ∃ n ∈ ns, g.portRaises cfg n l) := by
  induction ns generalizing g with
  | nil => exact ⟨Gpio.SameButStatus.refl g, fun l => by simp⟩
  | cons n ns ih =>
    have hp := Gpio.evalPort_spec cfg h n g
    have ht := ih (Gpio.evalPort cfg n g)
    refine ⟨hp.1.trans ht.1, fun l => ?_⟩
    rw [List.foldl_cons, ht.2 l, hp.2 l, or_assoc]
    refine or_congr_right ⟨?_, ?_⟩
    · rintro (hr | ⟨m, hm, hr⟩)
      · exact ⟨n, List.mem_cons_self, hr⟩
      · exact ⟨m, List.mem_cons_of_mem _ hm, (hp.1.portRaises cfg h m l).mp hr⟩
    · rintro ⟨m, hm, hr⟩
      rcases List.mem_cons.mp hm with rfl | hm
      · exact Or.inl hr
      · exact Or.inr ⟨m, hm, (hp.1.portRaises cfg h m l).mpr hr⟩

/-- R144: what the evaluation of every port does. -/
theorem Gpio.evalAll_spec (cfg : Params) (h : cfg.Wf) (g : Gpio) :
    g.SameButStatus (Gpio.evalAll cfg g) ∧
    ∀ l : Fin 32, (Gpio.evalAll cfg g).status l = true ↔ (g.status l = true ∨ g.anyRaises cfg l) := by
  have hs := Gpio.foldl_evalPort_spec cfg h (List.range cfg.nPorts) g
  refine ⟨hs.1, fun l => (hs.2 l).trans (or_congr_right ?_)⟩
  simp only [List.mem_range, Gpio.anyRaises]

/-- R127: the level that the output rule leaves on the line of a pin. -/
def Gpio.drivenLine (g : Gpio) (n i : Nat) : Bool :=
  if g.isOutput n i then g.dat n i else if g.isInput n i then false else g.line n i

/-- R127: what the output rule does to one pin: no word, no other line. -/
theorem Gpio.driveOutput_spec (g : Gpio) {n i : Nat} (hn : n < 14) (hi : i < 32) :
    (g.driveOutput n i).x = g.x ∧ (g.driveOutput n i).irq = g.irq ∧
    ∀ n' i', (g.driveOutput n i).line n' i' = if n' = n ∧ i' = i then g.drivenLine n i else g.line n' i' := by
  unfold Gpio.driveOutput Gpio.drivenLine
  split
  · refine ⟨rfl, rfl, fun n' i' => ?_⟩
    simp [Gpio.line_setLine, hn, hi]
  · split
    · refine ⟨rfl, rfl, fun n' i' => ?_⟩
      simp [Gpio.line_setLine, hn, hi]
    · refine ⟨rfl, rfl, fun n' i' => ?_⟩
      split
      · next h => rw [h.1, h.2]
      · rfl

theorem Gpio.word_congr {g h : Gpio} (a : h.x = g.x) (w : Nat) : h.word w = g.word w := by
  unfold Gpio.word
  rw [a]

theorem Gpio.drivenLine_congr {g h : Gpio} (a : h.x = g.x) (n i : Nat) (b : h.line n i = g.line n i) :
    h.drivenLine n i = g.drivenLine n i := by
  unfold Gpio.drivenLine Gpio.isOutput Gpio.isInput Gpio.cfgField Gpio.dat
  simp only [Gpio.word_congr a, b]

theorem Gpio.foldl_driveOutput_spec {n : Nat} (hn : n < 14) (is : List Nat) (hd : is.Nodup)
    (his : ∀ i ∈ is, i < 32) (g : Gpio) :
    (is.foldl (fun g i => g.driveOutput n i) g).x = g.x ∧
    (is.foldl (fun g i => g.driveOutput n i) g).irq = g.irq ∧
    ∀ n' i', (is.foldl (fun g i => g.driveOutput n i) g).line n' i' =
      if n' = n ∧ i' ∈ is then g.drivenLine n i' else g.line n' i' := by
  induction is generalizing g with
  | nil => simp
  | cons i is ih =>
    have hp := g.driveOutput_spec hn (his i List.mem_cons_self)
    have ht := ih (List.nodup_cons.mp hd).2 (fun j hj => his j (List.mem_cons_of_mem _ hj)) (g.driveOutput n i)
    refine ⟨ht.1.trans hp.1, ht.2.1.trans hp.2.1, fun n' i' => ?_⟩
    rw [List.foldl_cons, ht.2.2 n' i']
    by_cases hn' : n' = n
    · subst hn'
      by_cases hmem : i' ∈ is
      · have hne : i' ≠ i := fun h => (List.nodup_cons.mp hd).1 (h ▸ hmem)
        simp only [hmem, List.mem_cons, or_true, and_true, if_true]
        exact Gpio.drivenLine_congr hp.1 _ _ (by rw [hp.2.2]; simp [hne])
      · by_cases he : i' = i
        · subst he
          simp [hmem, hp.2.2]
        · simp [hmem, he, hp.2.2]
    · simp [hn', hp.2.2]

/-- R128: what the recomputation of a port's output lines does. -/
theorem Gpio.updateOutputs_spec (cfg : Params) (h : cfg.Wf) {n : Nat} (hn : n < cfg.nPorts) (g : Gpio) :
    (Gpio.updateOutputs cfg n g).x = g.x ∧ (Gpio.updateOutputs cfg n g).irq = g.irq ∧
    ∀ n' i', (Gpio.updateOutputs cfg n g).line n' i' =
      if n' = n ∧ i' < cfg.pinCount n then g.drivenLine n i' else g.line n' i' := by
  have hp := pinCount_le cfg h n
  have hN := h.1.2
  have hs := Gpio.foldl_driveOutput_spec (n := n) (by omega) (List.range (cfg.pinCount n)) List.nodup_range
    (fun i hi => lt_of_lt_of_le (List.mem_range.mp hi) hp) g
  simp only [List.mem_range] at hs
  exact hs

end Sys2Proof.Machine
end

