-- ==== Sys2Proof/Laws/Exec.lean ====
section
/-! SUPPORT. The 196 meanings as the thirteen operations of R70, and what the register map, the writes of GPIO and the
byte operations of the sensors do, said once. -/

namespace Sys2Proof.Machine

/-- The effect of a presented operation (R70). -/
def perform (op : Op) (s : State) : Result :=
  match op with
  | .rd _ off => readRegister off s
  | .wr _ off v => writeRegister off v s
  | .pin n i l => stimulatePin n i l s
  | .rst => resetGpio s
  | .aSel => execASel s
  | .aDesel => execADesel s
  | .aTx b => sendA b s
  | .aRx => receiveA s
  | .aRst => execARst s
  | .cSel => execCSel s
  | .cDesel => execCDesel s
  | .cXfer b => exchangeC b s
  | .cRst => execCRst s

/-- Every row does the operation that it stands for. -/
theorem exec_eq_perform (i : Instr) (s : State) : exec i s = perform (encode i) s := by
  cases i <;> rfl

theorem ofIndex_index (k : PortReg) : PortReg.ofIndex k.index = k := by cases k <;> rfl

theorem index_lt (k : PortReg) : k.index < 9 := by cases k <;> decide

theorem index_inj {j k : PortReg} (h : j.index = k.index) : j = k := by
  rw [← ofIndex_index j, h, ofIndex_index]

theorem index_ofIndex {r : Nat} (h : r < 9) : (PortReg.ofIndex r).index = r := by
  interval_cases r <;> rfl

/-- R73, R74: the offset of a port register decodes to it. -/
theorem decodeOffset_port {nPorts n : Nat} (h : n < nPorts) (k : PortReg) :
    decodeOffset nPorts (0x24 * n + 4 * k.index) = .port n k := by
  have hk := index_lt k
  have h1 : (0x24 * n + 4 * k.index) % 4 = 0 := by omega
  have h2 : 0x24 * n + 4 * k.index < 0x24 * nPorts := by omega
  have h3 : (0x24 * n + 4 * k.index) / 0x24 = n := by omega
  have h4 : (0x24 * n + 4 * k.index) % 0x24 / 4 = k.index := by omega
  simp only [decodeOffset, h1, h2, h3, h4, ofIndex_index, ne_eq, not_true_eq_false, if_false, if_true]

/-- R73: an offset decodes to a port register only if it is that register's. -/
theorem decodeOffset_eq_port {nPorts off n : Nat} {k : PortReg} (h : decodeOffset nPorts off = .port n k) :
    n < nPorts ∧ off = 0x24 * n + 4 * k.index := by
  unfold decodeOffset at h
  split at h
  · cases h
  · split at h
    · next h1 h2 =>
      cases h
      rw [index_ofIndex (by omega)]
      omega
    · repeat (split at h; · cases h)
      cases h

/-- R73, R75: the global registers' offsets decode to them, for every N that leaves room for them. -/
theorem decodeOffset_global {nPorts : Nat} (h : 0x24 * nPorts ≤ 0x200) :
    (∀ k : Fin 4, decodeOffset nPorts (0x200 + 4 * k.val) = .intCfg k) ∧ decodeOffset nPorts 0x210 = .intCtl ∧
    decodeOffset nPorts 0x214 = .intSta ∧ decodeOffset nPorts 0x218 = .intDeb := by
  have hge : ∀ off, 0x200 ≤ off → ¬ off < 0x24 * nPorts := fun off ho => by omega
  refine ⟨fun k => ?_, ?_, ?_, ?_⟩
  · fin_cases k <;> simp [decodeOffset, hge]
  all_goals simp [decodeOffset, hge]

/-- R74: the rows of a port register stand for `RD` and `WR` at its offset. -/
theorem encode_rdPort (p : PortName) (k : PortReg) :
    encode (Instr.rdPort p k) = .rd 4 (0x24 * p.index + 4 * k.index) := by
  cases p <;> cases k <;> rfl

theorem encode_wrPort (p : PortName) (k : PortReg) (v : Word) :
    encode (Instr.wrPort p k v) = .wr 4 (0x24 * p.index + 4 * k.index) v := by
  cases p <;> cases k <;> rfl

/-- R109: the write of a port word. -/
theorem Gpio.writePort_spec (cfg : Params) (h : cfg.Wf) {n : Nat} (hn : n < cfg.nPorts) (k : PortReg) (v : Word)
    (g : Gpio) :
    let g₁ := g.setWord (portIdx n k) (v &&& portMask k (cfg.pinCount n))
    let g' := g.writePort cfg n k (portIdx n k) v
    (∀ w, w ≠ intStaIdx → g'.word w = g₁.word w) ∧
    (∀ n' i', g'.line n' i' = if n' = n ∧ i' < cfg.pinCount n then g₁.drivenLine n i' else g.line n' i') ∧
    g'.irq = ((g'.word intCtlIdx &&& g'.word intStaIdx) != 0) ∧
    ∀ l : Fin 32, g'.status l = true ↔ (g.status l = true ∨ g₁.portRaises cfg n l) := by
  intro g₁ g'
  have hk := index_lt k
  have hN := h.1.2
  have ho := Gpio.updateOutputs_spec cfg h hn g₁
  have he := Gpio.evalPort_spec cfg h n (Gpio.updateOutputs cfg n g₁)
  have hx : g₁.SameButStatus { Gpio.updateOutputs cfg n g₁ with out := g₁.out } :=
    ⟨fun w _ => Gpio.word_congr ho.1 w, rfl, ho.2.1⟩
  refine ⟨fun w hw => ?_, fun n' i' => ?_, rfl, fun l => ?_⟩
  · exact (he.1.1 w hw).trans (Gpio.word_congr ho.1 w)
  · have hl : g'.line n' i' = (Gpio.updateOutputs cfg n g₁).line n' i' := by
      simp only [g', Gpio.writePort, Gpio.line_updateIrq]
      exact congrArg (fun o => (List.getD (Vector.toList o) n' 0).getLsbD i') he.1.2.1
    rw [hl, ho.2.2 n' i']
    rfl
  · have hp := hx.portRaises cfg h n l
    have hst : (Gpio.updateOutputs cfg n g₁).status l = g.status l := by
      have hne : ¬ (intStaIdx = portIdx n k ∧ portIdx n k < 135) := by unfold intStaIdx portIdx; omega
      unfold Gpio.status
      rw [Gpio.word_congr ho.1, Gpio.word_setWord, if_neg hne]
    exact (he.2 l).trans (by rw [hst]; exact or_congr_right hp)

/-- R149, R150, R152: the write of INT_CFG(k), INT_CTL or INT_DEB. -/
theorem Gpio.writeGlobal_spec (cfg : Params) (h : cfg.Wf) {w : Nat} (hw : w ≠ intStaIdx) (v : Word) (g : Gpio) :
    let g₁ := g.setWord w v
    let g' := g.writeGlobal cfg w v
    (∀ w', w' ≠ intStaIdx → g'.word w' = g₁.word w') ∧ g'.out = g.out ∧
    g'.irq = ((g'.word intCtlIdx &&& g'.word intStaIdx) != 0) ∧
    ∀ l : Fin 32, g'.status l = true ↔ (g.status l = true ∨ g₁.anyRaises cfg l) := by
  intro g₁ g'
  have he := Gpio.evalAll_spec cfg h g₁
  refine ⟨fun w' hw' => he.1.1 w' hw', he.1.2.1, rfl, fun l => ?_⟩
  have hst : g₁.status l = g.status l := by
    unfold Gpio.status
    rw [Gpio.word_setWord, if_neg (by omega)]
  exact (he.2 l).trans (by rw [hst])

/-- R151: the write of INT_STA. -/
theorem Gpio.writeStatus_spec (cfg : Params) (h : cfg.Wf) (v : Word) (g : Gpio) :
    let g' := g.writeStatus cfg v
    (∀ w', w' ≠ intStaIdx → g'.word w' = g.word w') ∧ g'.out = g.out ∧
    g'.irq = ((g'.word intCtlIdx &&& g'.word intStaIdx) != 0) ∧
    ∀ l : Fin 32, g'.status l = true ↔
      ((g.status l = true ∧ v.getLsbD l.val = false) ∨ (cfg.w1cReeval = true ∧ g.anyRaises cfg l)) := by
  intro g'
  have hc : g.SameButStatus (g.clearStatus v) :=
    ⟨fun w hw => by simp [Gpio.clearStatus, Gpio.word_setWord, hw], rfl, rfl⟩
  have hst : ∀ l : Fin 32, (g.clearStatus v).status l = true ↔ (g.status l = true ∧ v.getLsbD l.val = false) := by
    intro l
    unfold Gpio.status Gpio.clearStatus
    rw [Gpio.word_setWord, if_pos ⟨rfl, by decide⟩]
    simp
  by_cases hr : cfg.w1cReeval = true
  · have he := Gpio.evalAll_spec cfg h (g.clearStatus v)
    have hg : g' = (Gpio.evalAll cfg (g.clearStatus v)).updateIrq := by simp [g', Gpio.writeStatus, hr]
    rw [hg]
    refine ⟨fun w hw => (he.1.1 w hw).trans (hc.1 w hw), he.1.2.1, rfl, fun l => ?_⟩
    refine (he.2 l).trans (or_congr (hst l) ?_)
    simp only [hr, true_and, Gpio.anyRaises]
    exact exists_congr fun n => and_congr_right fun _ => hc.portRaises cfg h n l
  · have hg : g' = (g.clearStatus v).updateIrq := by simp [g', Gpio.writeStatus, hr]
    rw [hg]
    refine ⟨hc.1, rfl, rfl, fun l => ?_⟩
    have hi := hst l
    simp only [hr, Bool.false_eq_true, false_and, or_false]
    exact hi

/-- R166: the pin stimulus. -/
theorem Gpio.setPin_spec (cfg : Params) (h : cfg.Wf) {n : Nat} (hn : n < cfg.nPorts)
    (i : Nat) (l : Bool) (g : Gpio) :
    let g' := g.setPin cfg n i l
    (∀ w, w ≠ intStaIdx → g'.word w = if w = datIdx n then putBit (g.word (datIdx n)) i l else g.word w) ∧
    g'.out = g.out ∧ g'.irq = ((g'.word intCtlIdx &&& g'.word intStaIdx) != 0) ∧
    ∀ m : Fin 32, g'.status m = true ↔ (g.status m = true ∨ g.pinRaises cfg n i m (g.dat n i) l) := by
  intro g'
  have hN := h.1.2
  have he := Gpio.evalPin_spec cfg g n i (g.dat n i) l
  have hd : datIdx n ≠ intStaIdx := by unfold datIdx intStaIdx; omega
  have hb : datIdx n < 135 := by unfold datIdx; omega
  refine ⟨fun w hw => ?_, he.1.2.1, rfl, fun m => ?_⟩
  · simp only [g', Gpio.setPin, Gpio.word_updateIrq, Gpio.word_setWord, hb, and_true]
    split
    · rw [he.1.1 _ hd]
    · exact he.1.1 w hw
  · have hs : g'.status m = (Gpio.evalPin cfg n i (g.dat n i) l g).status m := by
      simp only [g', Gpio.setPin, Gpio.status, Gpio.word_updateIrq, Gpio.word_setWord]
      rw [if_neg (fun hc => hd hc.1.symm)]
    rw [hs]
    exact he.2 m

/-- R161: `RD` answers and changes nothing else. -/
theorem readRegister_frame {s t : State} {off : Nat} (h : readRegister off s = .next t) :
    ∃ r ds, t = s.answer r ds ∧ ds.length ≤ 1 := by
  unfold readRegister at h
  split at h <;> cases h
  · exact ⟨_, _, rfl, by simp⟩
  · exact ⟨_, _, rfl, by simp⟩

/-- R162: the four things that `WR` can do: the write of a port word, of a global word but INT_STA, of INT_STA, and
nothing but the diagnostic. -/
theorem writeRegister_cases {s t : State} {off : Nat} {v : Word} (h : writeRegister off v s = .next t) :
    (∃ n k, n < s.cfg.nPorts ∧ off = 0x24 * n + 4 * k.index ∧
      t = (s.setGpio (s.gpio.writePort s.cfg n k (portIdx n k) v)).answer .nothing []) ∨
    (∃ w ∈ [128, 129, 130, 131, 132, 134], off = 4 * w ∧
      t = (s.setGpio (s.gpio.writeGlobal s.cfg w v)).answer .nothing []) ∨
    (off = 0x214 ∧ t = (s.setGpio (s.gpio.writeStatus s.cfg v)).answer .nothing []) ∨
    t = s.answer .nothing [.guestError off (some v)] := by
  unfold writeRegister at h
  split at h <;> rename_i hd
  · rename_i n k
    obtain ⟨h1, h2⟩ := decodeOffset_eq_port hd
    cases h
    refine .inl ⟨n, k, h1, h2, ?_⟩
    have : off / 4 = portIdx n k := by unfold portIdx; omega
    rw [this]
  · rename_i k
    cases h
    refine .inr (.inl ⟨intCfgIdx k.val, ?_, ?_, rfl⟩)
    · unfold intCfgIdx; fin_cases k <;> simp
    · unfold decodeOffset at hd; unfold intCfgIdx; grind
  · cases h; exact .inr (.inl ⟨132, by simp, by unfold decodeOffset at hd; grind, rfl⟩)
  · cases h; exact .inr (.inr (.inl ⟨by unfold decodeOffset at hd; grind, rfl⟩))
  · cases h; exact .inr (.inl ⟨134, by simp, by unfold decodeOffset at hd; grind, rfl⟩)
  · cases h; exact .inr (.inr (.inr rfl))

/-- R18: an operation takes nothing from the queue and adds nothing to it, and changes no parameter. -/
theorem perform_frame {op : Op} {s t : State} (h : perform op s = .next t) :
    t.pending = s.pending ∧ t.cfg = s.cfg := by
  cases op <;> simp only [perform] at h
  case rd _ off => obtain ⟨_, _, rfl, -⟩ := readRegister_frame h; exact ⟨rfl, rfl⟩
  case wr _ off v =>
    rcases writeRegister_cases h with ⟨_, _, _, _, rfl⟩ | ⟨_, _, _, rfl⟩ | ⟨_, rfl⟩ | rfl <;> exact ⟨rfl, rfl⟩
  case pin n i l => unfold stimulatePin at h; split at h <;> cases h; exact ⟨rfl, rfl⟩
  case aRx => unfold receiveA at h; split at h <;> cases h; exact ⟨rfl, rfl⟩
  case cXfer b => unfold exchangeC at h; split at h <;> cases h; exact ⟨rfl, rfl⟩
  all_goals cases h; exact ⟨rfl, rfl⟩

end Sys2Proof.Machine
end

