-- ==== Sys2Proof/Laws/PerInstr.lean ====
section
/-! SUPPORT. A property of every row, proved row by row. -/

namespace Sys2Proof.Laws.EncodingAccepted

/-- The decoder accepts, in every state, the operation that a well-formed row stands for (R72, R73). -/
def Statement (i : Instr) : Prop :=
  ∀ cfg : Params, i.wellFormed cfg = true → ∀ ph : Phases, ∃ j, decode cfg ph (encode i) = .ok j

theorem rdPaCfg0 : Statement .rdPaCfg0 := fun _ _ _ => ⟨_, rfl⟩
theorem wrPaCfg0 (v : Word) : Statement (.wrPaCfg0 v) := fun _ _ _ => ⟨_, rfl⟩
theorem rdPaCfg1 : Statement .rdPaCfg1 := fun _ _ _ => ⟨_, rfl⟩
theorem wrPaCfg1 (v : Word) : Statement (.wrPaCfg1 v) := fun _ _ _ => ⟨_, rfl⟩
theorem rdPaCfg2 : Statement .rdPaCfg2 := fun _ _ _ => ⟨_, rfl⟩
theorem wrPaCfg2 (v : Word) : Statement (.wrPaCfg2 v) := fun _ _ _ => ⟨_, rfl⟩
theorem rdPaCfg3 : Statement .rdPaCfg3 := fun _ _ _ => ⟨_, rfl⟩
theorem wrPaCfg3 (v : Word) : Statement (.wrPaCfg3 v) := fun _ _ _ => ⟨_, rfl⟩
theorem rdPaDat : Statement .rdPaDat := fun _ _ _ => ⟨_, rfl⟩
theorem wrPaDat (v : Word) : Statement (.wrPaDat v) := fun _ _ _ => ⟨_, rfl⟩
theorem rdPaDrv0 : Statement .rdPaDrv0 := fun _ _ _ => ⟨_, rfl⟩
theorem wrPaDrv0 (v : Word) : Statement (.wrPaDrv0 v) := fun _ _ _ => ⟨_, rfl⟩
theorem rdPaDrv1 : Statement .rdPaDrv1 := fun _ _ _ => ⟨_, rfl⟩
theorem wrPaDrv1 (v : Word) : Statement (.wrPaDrv1 v) := fun _ _ _ => ⟨_, rfl⟩
theorem rdPaPul0 : Statement .rdPaPul0 := fun _ _ _ => ⟨_, rfl⟩
theorem wrPaPul0 (v : Word) : Statement (.wrPaPul0 v) := fun _ _ _ => ⟨_, rfl⟩
theorem rdPaPul1 : Statement .rdPaPul1 := fun _ _ _ => ⟨_, rfl⟩
theorem wrPaPul1 (v : Word) : Statement (.wrPaPul1 v) := fun _ _ _ => ⟨_, rfl⟩
theorem rdPbCfg0 : Statement .rdPbCfg0 := fun _ _ _ => ⟨_, rfl⟩
theorem wrPbCfg0 (v : Word) : Statement (.wrPbCfg0 v) := fun _ _ _ => ⟨_, rfl⟩
theorem rdPbCfg1 : Statement .rdPbCfg1 := fun _ _ _ => ⟨_, rfl⟩
theorem wrPbCfg1 (v : Word) : Statement (.wrPbCfg1 v) := fun _ _ _ => ⟨_, rfl⟩
theorem rdPbCfg2 : Statement .rdPbCfg2 := fun _ _ _ => ⟨_, rfl⟩
theorem wrPbCfg2 (v : Word) : Statement (.wrPbCfg2 v) := fun _ _ _ => ⟨_, rfl⟩
theorem rdPbCfg3 : Statement .rdPbCfg3 := fun _ _ _ => ⟨_, rfl⟩
theorem wrPbCfg3 (v : Word) : Statement (.wrPbCfg3 v) := fun _ _ _ => ⟨_, rfl⟩
theorem rdPbDat : Statement .rdPbDat := fun _ _ _ => ⟨_, rfl⟩
theorem wrPbDat (v : Word) : Statement (.wrPbDat v) := fun _ _ _ => ⟨_, rfl⟩
theorem rdPbDrv0 : Statement .rdPbDrv0 := fun _ _ _ => ⟨_, rfl⟩
theorem wrPbDrv0 (v : Word) : Statement (.wrPbDrv0 v) := fun _ _ _ => ⟨_, rfl⟩
theorem rdPbDrv1 : Statement .rdPbDrv1 := fun _ _ _ => ⟨_, rfl⟩
theorem wrPbDrv1 (v : Word) : Statement (.wrPbDrv1 v) := fun _ _ _ => ⟨_, rfl⟩
theorem rdPbPul0 : Statement .rdPbPul0 := fun _ _ _ => ⟨_, rfl⟩
theorem wrPbPul0 (v : Word) : Statement (.wrPbPul0 v) := fun _ _ _ => ⟨_, rfl⟩
theorem rdPbPul1 : Statement .rdPbPul1 := fun _ _ _ => ⟨_, rfl⟩
theorem wrPbPul1 (v : Word) : Statement (.wrPbPul1 v) := fun _ _ _ => ⟨_, rfl⟩
theorem rdPcCfg0 : Statement .rdPcCfg0 := fun _ _ _ => ⟨_, rfl⟩
theorem wrPcCfg0 (v : Word) : Statement (.wrPcCfg0 v) := fun _ _ _ => ⟨_, rfl⟩
theorem rdPcCfg1 : Statement .rdPcCfg1 := fun _ _ _ => ⟨_, rfl⟩
theorem wrPcCfg1 (v : Word) : Statement (.wrPcCfg1 v) := fun _ _ _ => ⟨_, rfl⟩
theorem rdPcCfg2 : Statement .rdPcCfg2 := fun _ _ _ => ⟨_, rfl⟩
theorem wrPcCfg2 (v : Word) : Statement (.wrPcCfg2 v) := fun _ _ _ => ⟨_, rfl⟩
theorem rdPcCfg3 : Statement .rdPcCfg3 := fun _ _ _ => ⟨_, rfl⟩
theorem wrPcCfg3 (v : Word) : Statement (.wrPcCfg3 v) := fun _ _ _ => ⟨_, rfl⟩
theorem rdPcDat : Statement .rdPcDat := fun _ _ _ => ⟨_, rfl⟩
theorem wrPcDat (v : Word) : Statement (.wrPcDat v) := fun _ _ _ => ⟨_, rfl⟩
theorem rdPcDrv0 : Statement .rdPcDrv0 := fun _ _ _ => ⟨_, rfl⟩
theorem wrPcDrv0 (v : Word) : Statement (.wrPcDrv0 v) := fun _ _ _ => ⟨_, rfl⟩
theorem rdPcDrv1 : Statement .rdPcDrv1 := fun _ _ _ => ⟨_, rfl⟩
theorem wrPcDrv1 (v : Word) : Statement (.wrPcDrv1 v) := fun _ _ _ => ⟨_, rfl⟩
theorem rdPcPul0 : Statement .rdPcPul0 := fun _ _ _ => ⟨_, rfl⟩
theorem wrPcPul0 (v : Word) : Statement (.wrPcPul0 v) := fun _ _ _ => ⟨_, rfl⟩
theorem rdPcPul1 : Statement .rdPcPul1 := fun _ _ _ => ⟨_, rfl⟩
theorem wrPcPul1 (v : Word) : Statement (.wrPcPul1 v) := fun _ _ _ => ⟨_, rfl⟩
theorem rdPdCfg0 : Statement .rdPdCfg0 := fun _ _ _ => ⟨_, rfl⟩
theorem wrPdCfg0 (v : Word) : Statement (.wrPdCfg0 v) := fun _ _ _ => ⟨_, rfl⟩
theorem rdPdCfg1 : Statement .rdPdCfg1 := fun _ _ _ => ⟨_, rfl⟩
theorem wrPdCfg1 (v : Word) : Statement (.wrPdCfg1 v) := fun _ _ _ => ⟨_, rfl⟩
theorem rdPdCfg2 : Statement .rdPdCfg2 := fun _ _ _ => ⟨_, rfl⟩
theorem wrPdCfg2 (v : Word) : Statement (.wrPdCfg2 v) := fun _ _ _ => ⟨_, rfl⟩
theorem rdPdCfg3 : Statement .rdPdCfg3 := fun _ _ _ => ⟨_, rfl⟩
theorem wrPdCfg3 (v : Word) : Statement (.wrPdCfg3 v) := fun _ _ _ => ⟨_, rfl⟩
theorem rdPdDat : Statement .rdPdDat := fun _ _ _ => ⟨_, rfl⟩
theorem wrPdDat (v : Word) : Statement (.wrPdDat v) := fun _ _ _ => ⟨_, rfl⟩
theorem rdPdDrv0 : Statement .rdPdDrv0 := fun _ _ _ => ⟨_, rfl⟩
theorem wrPdDrv0 (v : Word) : Statement (.wrPdDrv0 v) := fun _ _ _ => ⟨_, rfl⟩
theorem rdPdDrv1 : Statement .rdPdDrv1 := fun _ _ _ => ⟨_, rfl⟩
theorem wrPdDrv1 (v : Word) : Statement (.wrPdDrv1 v) := fun _ _ _ => ⟨_, rfl⟩
theorem rdPdPul0 : Statement .rdPdPul0 := fun _ _ _ => ⟨_, rfl⟩
theorem wrPdPul0 (v : Word) : Statement (.wrPdPul0 v) := fun _ _ _ => ⟨_, rfl⟩
theorem rdPdPul1 : Statement .rdPdPul1 := fun _ _ _ => ⟨_, rfl⟩
theorem wrPdPul1 (v : Word) : Statement (.wrPdPul1 v) := fun _ _ _ => ⟨_, rfl⟩
theorem rdPeCfg0 : Statement .rdPeCfg0 := fun _ _ _ => ⟨_, rfl⟩
theorem wrPeCfg0 (v : Word) : Statement (.wrPeCfg0 v) := fun _ _ _ => ⟨_, rfl⟩
theorem rdPeCfg1 : Statement .rdPeCfg1 := fun _ _ _ => ⟨_, rfl⟩
theorem wrPeCfg1 (v : Word) : Statement (.wrPeCfg1 v) := fun _ _ _ => ⟨_, rfl⟩
theorem rdPeCfg2 : Statement .rdPeCfg2 := fun _ _ _ => ⟨_, rfl⟩
theorem wrPeCfg2 (v : Word) : Statement (.wrPeCfg2 v) := fun _ _ _ => ⟨_, rfl⟩
theorem rdPeCfg3 : Statement .rdPeCfg3 := fun _ _ _ => ⟨_, rfl⟩
theorem wrPeCfg3 (v : Word) : Statement (.wrPeCfg3 v) := fun _ _ _ => ⟨_, rfl⟩
theorem rdPeDat : Statement .rdPeDat := fun _ _ _ => ⟨_, rfl⟩
theorem wrPeDat (v : Word) : Statement (.wrPeDat v) := fun _ _ _ => ⟨_, rfl⟩
theorem rdPeDrv0 : Statement .rdPeDrv0 := fun _ _ _ => ⟨_, rfl⟩
theorem wrPeDrv0 (v : Word) : Statement (.wrPeDrv0 v) := fun _ _ _ => ⟨_, rfl⟩
theorem rdPeDrv1 : Statement .rdPeDrv1 := fun _ _ _ => ⟨_, rfl⟩
theorem wrPeDrv1 (v : Word) : Statement (.wrPeDrv1 v) := fun _ _ _ => ⟨_, rfl⟩
theorem rdPePul0 : Statement .rdPePul0 := fun _ _ _ => ⟨_, rfl⟩
theorem wrPePul0 (v : Word) : Statement (.wrPePul0 v) := fun _ _ _ => ⟨_, rfl⟩
theorem rdPePul1 : Statement .rdPePul1 := fun _ _ _ => ⟨_, rfl⟩
theorem wrPePul1 (v : Word) : Statement (.wrPePul1 v) := fun _ _ _ => ⟨_, rfl⟩
theorem rdPfCfg0 : Statement .rdPfCfg0 := fun _ _ _ => ⟨_, rfl⟩
theorem wrPfCfg0 (v : Word) : Statement (.wrPfCfg0 v) := fun _ _ _ => ⟨_, rfl⟩
theorem rdPfCfg1 : Statement .rdPfCfg1 := fun _ _ _ => ⟨_, rfl⟩
theorem wrPfCfg1 (v : Word) : Statement (.wrPfCfg1 v) := fun _ _ _ => ⟨_, rfl⟩
theorem rdPfCfg2 : Statement .rdPfCfg2 := fun _ _ _ => ⟨_, rfl⟩
theorem wrPfCfg2 (v : Word) : Statement (.wrPfCfg2 v) := fun _ _ _ => ⟨_, rfl⟩
theorem rdPfCfg3 : Statement .rdPfCfg3 := fun _ _ _ => ⟨_, rfl⟩
theorem wrPfCfg3 (v : Word) : Statement (.wrPfCfg3 v) := fun _ _ _ => ⟨_, rfl⟩
theorem rdPfDat : Statement .rdPfDat := fun _ _ _ => ⟨_, rfl⟩
theorem wrPfDat (v : Word) : Statement (.wrPfDat v) := fun _ _ _ => ⟨_, rfl⟩
theorem rdPfDrv0 : Statement .rdPfDrv0 := fun _ _ _ => ⟨_, rfl⟩
theorem wrPfDrv0 (v : Word) : Statement (.wrPfDrv0 v) := fun _ _ _ => ⟨_, rfl⟩
theorem rdPfDrv1 : Statement .rdPfDrv1 := fun _ _ _ => ⟨_, rfl⟩
theorem wrPfDrv1 (v : Word) : Statement (.wrPfDrv1 v) := fun _ _ _ => ⟨_, rfl⟩
theorem rdPfPul0 : Statement .rdPfPul0 := fun _ _ _ => ⟨_, rfl⟩
theorem wrPfPul0 (v : Word) : Statement (.wrPfPul0 v) := fun _ _ _ => ⟨_, rfl⟩
theorem rdPfPul1 : Statement .rdPfPul1 := fun _ _ _ => ⟨_, rfl⟩
theorem wrPfPul1 (v : Word) : Statement (.wrPfPul1 v) := fun _ _ _ => ⟨_, rfl⟩
theorem rdPgCfg0 : Statement .rdPgCfg0 := fun _ _ _ => ⟨_, rfl⟩
theorem wrPgCfg0 (v : Word) : Statement (.wrPgCfg0 v) := fun _ _ _ => ⟨_, rfl⟩
theorem rdPgCfg1 : Statement .rdPgCfg1 := fun _ _ _ => ⟨_, rfl⟩
theorem wrPgCfg1 (v : Word) : Statement (.wrPgCfg1 v) := fun _ _ _ => ⟨_, rfl⟩
theorem rdPgCfg2 : Statement .rdPgCfg2 := fun _ _ _ => ⟨_, rfl⟩
theorem wrPgCfg2 (v : Word) : Statement (.wrPgCfg2 v) := fun _ _ _ => ⟨_, rfl⟩
theorem rdPgCfg3 : Statement .rdPgCfg3 := fun _ _ _ => ⟨_, rfl⟩
theorem wrPgCfg3 (v : Word) : Statement (.wrPgCfg3 v) := fun _ _ _ => ⟨_, rfl⟩
theorem rdPgDat : Statement .rdPgDat := fun _ _ _ => ⟨_, rfl⟩
theorem wrPgDat (v : Word) : Statement (.wrPgDat v) := fun _ _ _ => ⟨_, rfl⟩
theorem rdPgDrv0 : Statement .rdPgDrv0 := fun _ _ _ => ⟨_, rfl⟩
theorem wrPgDrv0 (v : Word) : Statement (.wrPgDrv0 v) := fun _ _ _ => ⟨_, rfl⟩
theorem rdPgDrv1 : Statement .rdPgDrv1 := fun _ _ _ => ⟨_, rfl⟩
theorem wrPgDrv1 (v : Word) : Statement (.wrPgDrv1 v) := fun _ _ _ => ⟨_, rfl⟩
theorem rdPgPul0 : Statement .rdPgPul0 := fun _ _ _ => ⟨_, rfl⟩
theorem wrPgPul0 (v : Word) : Statement (.wrPgPul0 v) := fun _ _ _ => ⟨_, rfl⟩
theorem rdPgPul1 : Statement .rdPgPul1 := fun _ _ _ => ⟨_, rfl⟩
theorem wrPgPul1 (v : Word) : Statement (.wrPgPul1 v) := fun _ _ _ => ⟨_, rfl⟩
theorem rdPhCfg0 : Statement .rdPhCfg0 := fun _ _ _ => ⟨_, rfl⟩
theorem wrPhCfg0 (v : Word) : Statement (.wrPhCfg0 v) := fun _ _ _ => ⟨_, rfl⟩
theorem rdPhCfg1 : Statement .rdPhCfg1 := fun _ _ _ => ⟨_, rfl⟩
theorem wrPhCfg1 (v : Word) : Statement (.wrPhCfg1 v) := fun _ _ _ => ⟨_, rfl⟩
theorem rdPhCfg2 : Statement .rdPhCfg2 := fun _ _ _ => ⟨_, rfl⟩
theorem wrPhCfg2 (v : Word) : Statement (.wrPhCfg2 v) := fun _ _ _ => ⟨_, rfl⟩
theorem rdPhCfg3 : Statement .rdPhCfg3 := fun _ _ _ => ⟨_, rfl⟩
theorem wrPhCfg3 (v : Word) : Statement (.wrPhCfg3 v) := fun _ _ _ => ⟨_, rfl⟩
theorem rdPhDat : Statement .rdPhDat := fun _ _ _ => ⟨_, rfl⟩
theorem wrPhDat (v : Word) : Statement (.wrPhDat v) := fun _ _ _ => ⟨_, rfl⟩
theorem rdPhDrv0 : Statement .rdPhDrv0 := fun _ _ _ => ⟨_, rfl⟩
theorem wrPhDrv0 (v : Word) : Statement (.wrPhDrv0 v) := fun _ _ _ => ⟨_, rfl⟩
theorem rdPhDrv1 : Statement .rdPhDrv1 := fun _ _ _ => ⟨_, rfl⟩
theorem wrPhDrv1 (v : Word) : Statement (.wrPhDrv1 v) := fun _ _ _ => ⟨_, rfl⟩
theorem rdPhPul0 : Statement .rdPhPul0 := fun _ _ _ => ⟨_, rfl⟩
theorem wrPhPul0 (v : Word) : Statement (.wrPhPul0 v) := fun _ _ _ => ⟨_, rfl⟩
theorem rdPhPul1 : Statement .rdPhPul1 := fun _ _ _ => ⟨_, rfl⟩
theorem wrPhPul1 (v : Word) : Statement (.wrPhPul1 v) := fun _ _ _ => ⟨_, rfl⟩
theorem rdPiCfg0 : Statement .rdPiCfg0 := fun _ _ _ => ⟨_, rfl⟩
theorem wrPiCfg0 (v : Word) : Statement (.wrPiCfg0 v) := fun _ _ _ => ⟨_, rfl⟩
theorem rdPiCfg1 : Statement .rdPiCfg1 := fun _ _ _ => ⟨_, rfl⟩
theorem wrPiCfg1 (v : Word) : Statement (.wrPiCfg1 v) := fun _ _ _ => ⟨_, rfl⟩
theorem rdPiCfg2 : Statement .rdPiCfg2 := fun _ _ _ => ⟨_, rfl⟩
theorem wrPiCfg2 (v : Word) : Statement (.wrPiCfg2 v) := fun _ _ _ => ⟨_, rfl⟩
theorem rdPiCfg3 : Statement .rdPiCfg3 := fun _ _ _ => ⟨_, rfl⟩
theorem wrPiCfg3 (v : Word) : Statement (.wrPiCfg3 v) := fun _ _ _ => ⟨_, rfl⟩
theorem rdPiDat : Statement .rdPiDat := fun _ _ _ => ⟨_, rfl⟩
theorem wrPiDat (v : Word) : Statement (.wrPiDat v) := fun _ _ _ => ⟨_, rfl⟩
theorem rdPiDrv0 : Statement .rdPiDrv0 := fun _ _ _ => ⟨_, rfl⟩
theorem wrPiDrv0 (v : Word) : Statement (.wrPiDrv0 v) := fun _ _ _ => ⟨_, rfl⟩
theorem rdPiDrv1 : Statement .rdPiDrv1 := fun _ _ _ => ⟨_, rfl⟩
theorem wrPiDrv1 (v : Word) : Statement (.wrPiDrv1 v) := fun _ _ _ => ⟨_, rfl⟩
theorem rdPiPul0 : Statement .rdPiPul0 := fun _ _ _ => ⟨_, rfl⟩
theorem wrPiPul0 (v : Word) : Statement (.wrPiPul0 v) := fun _ _ _ => ⟨_, rfl⟩
theorem rdPiPul1 : Statement .rdPiPul1 := fun _ _ _ => ⟨_, rfl⟩
theorem wrPiPul1 (v : Word) : Statement (.wrPiPul1 v) := fun _ _ _ => ⟨_, rfl⟩
theorem rdIntCfg0 : Statement .rdIntCfg0 := fun _ _ _ => ⟨_, rfl⟩
theorem wrIntCfg0 (v : Word) : Statement (.wrIntCfg0 v) := fun _ _ _ => ⟨_, rfl⟩
theorem rdIntCfg1 : Statement .rdIntCfg1 := fun _ _ _ => ⟨_, rfl⟩
theorem wrIntCfg1 (v : Word) : Statement (.wrIntCfg1 v) := fun _ _ _ => ⟨_, rfl⟩
theorem rdIntCfg2 : Statement .rdIntCfg2 := fun _ _ _ => ⟨_, rfl⟩
theorem wrIntCfg2 (v : Word) : Statement (.wrIntCfg2 v) := fun _ _ _ => ⟨_, rfl⟩
theorem rdIntCfg3 : Statement .rdIntCfg3 := fun _ _ _ => ⟨_, rfl⟩
theorem wrIntCfg3 (v : Word) : Statement (.wrIntCfg3 v) := fun _ _ _ => ⟨_, rfl⟩
theorem rdIntCtl : Statement .rdIntCtl := fun _ _ _ => ⟨_, rfl⟩
theorem wrIntCtl (v : Word) : Statement (.wrIntCtl v) := fun _ _ _ => ⟨_, rfl⟩
theorem rdIntSta : Statement .rdIntSta := fun _ _ _ => ⟨_, rfl⟩
theorem wrIntSta (v : Word) : Statement (.wrIntSta v) := fun _ _ _ => ⟨_, rfl⟩
theorem rdIntDeb : Statement .rdIntDeb := fun _ _ _ => ⟨_, rfl⟩
theorem wrIntDeb (v : Word) : Statement (.wrIntDeb v) := fun _ _ _ => ⟨_, rfl⟩
theorem rdMisaligned (off : Nat) : Statement (.rdMisaligned off) := fun _ _ _ => ⟨_, rfl⟩
theorem rdUnmapped (off : Nat) : Statement (.rdUnmapped off) := fun _ _ _ => ⟨_, rfl⟩
theorem wrMisaligned (off : Nat) (v : Word) : Statement (.wrMisaligned off v) := fun _ _ _ => ⟨_, rfl⟩
theorem wrUnmapped (off : Nat) (v : Word) : Statement (.wrUnmapped off v) := fun _ _ _ => ⟨_, rfl⟩
theorem pin (n j : Nat) (l : Bool) : Statement (.pin n j l) := by
  intro cfg h ph
  refine ⟨.pin n j l, if_pos ?_⟩
  simpa [Instr.wellFormed] using h

theorem rst : Statement .rst := fun _ _ _ => ⟨_, rfl⟩
theorem aSel : Statement .aSel := fun _ _ _ => ⟨_, rfl⟩
theorem aDesel : Statement .aDesel := fun _ _ _ => ⟨_, rfl⟩
theorem aRst : Statement .aRst := fun _ _ _ => ⟨_, rfl⟩
theorem cSel : Statement .cSel := fun _ _ _ => ⟨_, rfl⟩
theorem cDesel : Statement .cDesel := fun _ _ _ => ⟨_, rfl⟩
theorem cRst : Statement .cRst := fun _ _ _ => ⟨_, rfl⟩
theorem aTxPointer (b : Byte) : Statement (.aTxPointer b) := fun _ _ _ => ⟨_, rfl⟩
theorem aTxData (b : Byte) : Statement (.aTxData b) := fun _ _ _ => ⟨_, rfl⟩
theorem aTxOversized (b : Byte) : Statement (.aTxOversized b) := fun _ _ _ => ⟨_, rfl⟩
theorem aRxFirst : Statement .aRxFirst := fun _ _ _ => ⟨_, rfl⟩
theorem aRxData : Statement .aRxData := fun _ _ _ => ⟨_, rfl⟩
theorem aRxOversized : Statement .aRxOversized := fun _ _ _ => ⟨_, rfl⟩
theorem cXferReadCommand (r : BitVec 6) : Statement (.cXferReadCommand r) := fun _ _ _ => ⟨_, rfl⟩
theorem cXferWriteCommand (r : BitVec 6) : Statement (.cXferWriteCommand r) := fun _ _ _ => ⟨_, rfl⟩
theorem cXferStartFlagClear (x : BitVec 7) : Statement (.cXferStartFlagClear x) := fun _ _ _ => ⟨_, rfl⟩
theorem cXferReadData (d : Byte) : Statement (.cXferReadData d) := fun _ _ _ => ⟨_, rfl⟩
theorem cXferWriteData (d : Byte) : Statement (.cXferWriteData d) := fun _ _ _ => ⟨_, rfl⟩
theorem cXferOversized (b : Byte) : Statement (.cXferOversized b) := fun _ _ _ => ⟨_, rfl⟩

end Sys2Proof.Laws.EncodingAccepted
end

