-- ==== Sys2Proof/Laws/Sensor.lean ====
section
/-! SUPPORT. What each shared operation of the sensors does, said once: the draws, the register rules of R184 to R186, the
byte operations. -/

namespace Sys2Proof.Machine

/-- R17: what is drawn from MEAS_SET is a member of it. -/
theorem measurement_mem (id : SensorId) (p : SensorParams) (k : Nat) : measurement id p k ∈ p.measSet := by
  have h : Config.freeIndex id k % p.measSet.length < p.measSet.length :=
    Nat.mod_lt _ (by simp [SensorParams.measSet])
  unfold measurement
  rw [List.getD_eq_getElem _ _ h]
  exact List.getElem_mem _

/-- R12: both candidate masks keep bit 0, the enable bit. -/
theorem ctrlWMask_bit_zero (p : SensorParams) (b : Byte) : (b &&& p.ctrlWMask).getLsbD 0 = b.getLsbD 0 := by
  unfold SensorParams.ctrlWMask
  cases p.ctrlMask <;> simp

/-- R186: a refresh rewrites TEMPERATURE alone, with a member of MEAS_SET if the sensor is enabled, else with 0xFF. -/
theorem Sensor.refresh_spec (id : SensorId) (p : SensorParams) (d : Sensor) :
    d.refresh id p = { d with temp := (d.refresh id p).temp, draws := (d.refresh id p).draws } ∧
    if d.ctrl.getLsbD 0 then (d.refresh id p).temp ∈ p.measSet else (d.refresh id p).temp = 0xFF := by
  unfold Sensor.refresh
  split <;> simp [*, measurement_mem]

/-- R184: a data byte reaches CTRL, and nothing else, exactly at index 1. -/
theorem Sensor.regWrite_spec (p : SensorParams) (r : Nat) (b : Byte) (d : Sensor) :
    d.regWrite p r b =
      if r = 1 then ({ d with ctrl := b &&& p.ctrlWMask }, []) else (d, [.writeRejected]) := rfl

/-- R185: a data read changes no register; at an index of 3 or more it draws a byte and raises ReadNonexistent. -/
theorem Sensor.regRead_spec (id : SensorId) (r : Nat) (d : Sensor) :
    (d.regRead id r).dev = { d with draws := (d.regRead id r).dev.draws } ∧
    (d.regRead id r).diags = (if 3 ≤ r then [.readNonexistent] else []) ∧
    (r = 0 → (d.regRead id r).byte = d.id) ∧ (r = 1 → (d.regRead id r).byte = d.ctrl) ∧
    (r = 2 → (d.regRead id r).byte = d.temp) := by
  unfold Sensor.regRead Sensor.drawByte
  by_cases h0 : r = 0
  · subst h0; simp
  · by_cases h1 : r = 1
    · subst h1; simp
    · by_cases h2 : r = 2
      · subst h2; simp
      · have h3 : 3 ≤ r := by omega
        simp [h0, h1, h2, h3]

/-- R201, R202, R203: what a byte to SENS_A leaves of the registers, whatever its place in the frame: ID and TEMPERATURE as
they were, CTRL too but for the data byte of pointer 1; and one diagnostic at most. -/
theorem addressedTx_frame (p : SensorParams) (b : Byte) (d : Sensor) :
    (addressedTx p b d).1.id = d.id ∧ (addressedTx p b d).1.temp = d.temp ∧
    ((addressedTx p b d).1.ctrl = d.ctrl ∨
      (d.cnt = .phase1 ∧ d.ptr.toNat = 1 ∧ (addressedTx p b d).1.ctrl = b &&& p.ctrlWMask)) ∧
    (addressedTx p b d).2.length ≤ 1 := by
  unfold addressedTx
  split
  · simp
  · next h =>
    simp only [Sensor.regWrite_spec]
    by_cases h1 : d.ptr.toNat = 1 <;> simp [h, h1]
  · simp

/-- R205, R206: a byte read from SENS_A changes no register but TEMPERATURE, leaves cnt = 2, and raises one diagnostic at
most. -/
theorem addressedRx_frame {p : SensorParams} {d : Sensor} {r : ByteResult} (h : addressedRx p d = some r) :
    r.dev.id = d.id ∧ r.dev.ctrl = d.ctrl ∧ r.dev.ptr = d.ptr ∧ r.dev.cnt = .used ∧ r.diags.length ≤ 1 := by
  unfold addressedRx at h
  split at h
  · cases h
  · cases h
    have hf := (d.refresh_spec .a p).1
    generalize hd : (if d.ptr.toNat = 2 then d.refresh .a p else d) = d'
    have hd' : d'.id = d.id ∧ d'.ctrl = d.ctrl ∧ d'.ptr = d.ptr := by
      subst hd
      split
      · rw [hf]; exact ⟨rfl, rfl, rfl⟩
      · exact ⟨rfl, rfl, rfl⟩
    have hr := d'.regRead_spec .a d.ptr.toNat
    simp only [hr.2.1]
    rw [hr.1]
    refine ⟨hd'.1, hd'.2.1, hd'.2.2, trivial, ?_⟩
    split <;> simp
  · next hc => cases h; simp [Sensor.drawByte, hc]

/-- R218 to R222: a byte exchanged with SENS_C changes ID never and CTRL only as the data byte of a write to index 1,
leaves cnt = 1 or cnt = 2, and raises one diagnostic at most. -/
theorem commandXfer_frame {cfg : Params} {b : Byte} {d : Sensor} {r : ByteResult} (h : commandXfer cfg b d = .ok r) :
    r.dev.id = d.id ∧ r.dev.cnt ≠ .phase0 ∧ r.diags.length ≤ 1 ∧
    (r.dev.ctrl = d.ctrl ∨
      (d.cnt = .phase1 ∧ (commandFields cfg d.ptr).isRead = false ∧ (commandFields cfg d.ptr).reg = 1 ∧
        r.dev.ctrl = b &&& cfg.sensC.ctrlWMask)) := by
  unfold commandXfer at h
  split at h
  · simp only at h
    split at h
    · cases h
      simp only [Sensor.drawByte]
      split
      · rw [(Sensor.refresh_spec .c cfg.sensC _).1]; simp
      · simp
    · cases h
  · next hc =>
    simp only at h
    split at h
    · split at h
      · cases h
        have hr := d.regRead_spec .c (commandFields cfg d.ptr).reg
        simp only [hr.2.1]
        rw [hr.1]
        refine ⟨rfl, by simp, ?_, .inl rfl⟩
        split <;> simp
      · next hw =>
        cases h
        simp only [Sensor.regWrite_spec, Sensor.drawByte]
        by_cases h1 : (commandFields cfg d.ptr).reg = 1
        · simp [h1, hc, hw]
        · simp [h1]
    · cases h
  · next hc => cases h; simp [Sensor.drawByte, hc]

end Sys2Proof.Machine
end

