-- ==== Sys2Proof/Tests/Slice0.lean ====
section
/-! SUPPORT. The model's own tests: the well-formedness checks, every row of the opcode table decoded from the words of
R75, R76 and R84, one step of each instruction with the results that 95_test_vectors.md gives, and for each statement with
hypotheses a state that meets them. -/

namespace Sys2Proof.Tests

open Sys2Proof Sys2Proof.Machine

set_option Elab.async false

/-- CFG_REF with known sensor constants, so that a test can name them. -/
def cfg : Params :=
  { Params.ref with
    sensA := { idConst := 0x5A, measHead := 0x21, measTail := [], ctrlMask := .allBits }
    sensC := { idConst := 0xC3, measHead := 0x42, measTail := [0x43], ctrlMask := .enableOnly } }

/-- The state after reset under `cfg`. -/
def start : State :=
  { State.reset with cfg := cfg, sensA := Sensor.atReset cfg.sensA, sensC := Sensor.atReset cfg.sensC }

/-- `start` with some words and lines of GPIO set. -/
def withWords (ws : List (Nat × Word)) (ls : List (Nat × Nat) := []) (irq : Bool := false) : State :=
  let g := ws.foldl (fun g p => g.setWord p.1 p.2) Gpio.reset
  let h := ls.foldl (fun g p => g.setLine p.1 p.2 true) g
  { start with gpio := { h with irq := irq } }

/-- `start` with SENS_A in the given place of a frame. -/
def atA (cnt : Phase) (ptr : Byte) (ctrl : Byte := 0x00) : State :=
  { start with sensA := { start.sensA with cnt := cnt, ptr := ptr, ctrl := ctrl } }

/-- `start` with SENS_C in the given place of a frame. -/
def atC (cnt : Phase) (ptr : Byte) (ctrl : Byte := 0x00) : State :=
  { start with sensC := { start.sensC with cnt := cnt, ptr := ptr, ctrl := ctrl } }

/-- The state with operations presented. -/
def ask (ops : List Op) (s : State) : State := { s with pending := ops }

/-- A view of a next state. -/
def after {α : Type} (f : State → α) (r : Result) : Option α :=
  match r with
  | .next t => some (f t)
  | .fault _ => none
  | .refused _ => none

/-- The refusal of an outcome. -/
def refusal (r : Result) : Option Refusal :=
  match r with
  | .refused e => some e
  | .next _ => none
  | .fault _ => none

/-- A GPIO whose word w holds w + 1. -/
def numbered : State :=
  { start with gpio := { Gpio.reset with x := ⟨⟨(List.range 135).map fun w => BitVec.ofNat 32 (w + 1)⟩, by simp⟩ } }

/-! ## Well-formedness: an ill-formed term for each check -/

theorem test_wf_rdMisaligned_refuses_aligned : (Instr.rdMisaligned 0x210).wellFormed cfg = false := by decide
theorem test_wf_wrMisaligned_refuses_aligned : (Instr.wrMisaligned 0x000 0).wellFormed cfg = false := by decide
theorem test_wf_rdUnmapped_refuses_misaligned : (Instr.rdUnmapped 0x145).wellFormed cfg = false := by decide
theorem test_wf_rdUnmapped_refuses_port_register : (Instr.rdUnmapped 0x140).wellFormed cfg = false := by decide
theorem test_wf_rdUnmapped_refuses_global_register : (Instr.rdUnmapped 0x218).wellFormed cfg = false := by decide
theorem test_wf_wrUnmapped_refuses_misaligned : (Instr.wrUnmapped 0x21E 0).wellFormed cfg = false := by decide
theorem test_wf_wrUnmapped_refuses_register : (Instr.wrUnmapped 0x200 0).wellFormed cfg = false := by decide
theorem test_wf_pin_refuses_port : (Instr.pin 9 0 true).wellFormed cfg = false := by decide
theorem test_wf_pin_refuses_pin : (Instr.pin 7 28 true).wellFormed cfg = false := by decide
theorem test_wf_accepts : ((Instr.pin 7 27 true).wellFormed cfg && (Instr.rdUnmapped 0x144).wellFormed cfg &&
    (Instr.wrUnmapped 0x21C 1).wellFormed cfg && (Instr.rdMisaligned 0x211).wellFormed cfg) = true := by decide

/-! ## Decoding: the words of R76 (base of a port + 0x00 .. 0x20), R75 and R84, written out -/

theorem test_decode_rd_pa : [0x000, 0x004, 0x008, 0x00C, 0x010, 0x014, 0x018, 0x01C, 0x020].map (decodeTableWord 32) =
    [some .rdPaCfg0, some .rdPaCfg1, some .rdPaCfg2, some .rdPaCfg3, some .rdPaDat,
      some .rdPaDrv0, some .rdPaDrv1, some .rdPaPul0, some .rdPaPul1] := by decide
theorem test_decode_wr_pa : [0x000, 0x004, 0x008, 0x00C, 0x010, 0x014, 0x018, 0x01C, 0x020].map (fun off => decodeWr off 0x89ABCDEF) =
    [.wrPaCfg0 0x89ABCDEF, .wrPaCfg1 0x89ABCDEF, .wrPaCfg2 0x89ABCDEF,
      .wrPaCfg3 0x89ABCDEF, .wrPaDat 0x89ABCDEF, .wrPaDrv0 0x89ABCDEF,
      .wrPaDrv1 0x89ABCDEF, .wrPaPul0 0x89ABCDEF, .wrPaPul1 0x89ABCDEF] := by decide
theorem test_decode_rd_pb : [0x024, 0x028, 0x02C, 0x030, 0x034, 0x038, 0x03C, 0x040, 0x044].map (decodeTableWord 32) =
    [some .rdPbCfg0, some .rdPbCfg1, some .rdPbCfg2, some .rdPbCfg3, some .rdPbDat,
      some .rdPbDrv0, some .rdPbDrv1, some .rdPbPul0, some .rdPbPul1] := by decide
theorem test_decode_wr_pb : [0x024, 0x028, 0x02C, 0x030, 0x034, 0x038, 0x03C, 0x040, 0x044].map (fun off => decodeWr off 0x89ABCDEF) =
    [.wrPbCfg0 0x89ABCDEF, .wrPbCfg1 0x89ABCDEF, .wrPbCfg2 0x89ABCDEF,
      .wrPbCfg3 0x89ABCDEF, .wrPbDat 0x89ABCDEF, .wrPbDrv0 0x89ABCDEF,
      .wrPbDrv1 0x89ABCDEF, .wrPbPul0 0x89ABCDEF, .wrPbPul1 0x89ABCDEF] := by decide
theorem test_decode_rd_pc : [0x048, 0x04C, 0x050, 0x054, 0x058, 0x05C, 0x060, 0x064, 0x068].map (decodeTableWord 32) =
    [some .rdPcCfg0, some .rdPcCfg1, some .rdPcCfg2, some .rdPcCfg3, some .rdPcDat,
      some .rdPcDrv0, some .rdPcDrv1, some .rdPcPul0, some .rdPcPul1] := by decide
theorem test_decode_wr_pc : [0x048, 0x04C, 0x050, 0x054, 0x058, 0x05C, 0x060, 0x064, 0x068].map (fun off => decodeWr off 0x89ABCDEF) =
    [.wrPcCfg0 0x89ABCDEF, .wrPcCfg1 0x89ABCDEF, .wrPcCfg2 0x89ABCDEF,
      .wrPcCfg3 0x89ABCDEF, .wrPcDat 0x89ABCDEF, .wrPcDrv0 0x89ABCDEF,
      .wrPcDrv1 0x89ABCDEF, .wrPcPul0 0x89ABCDEF, .wrPcPul1 0x89ABCDEF] := by decide
theorem test_decode_rd_pd : [0x06C, 0x070, 0x074, 0x078, 0x07C, 0x080, 0x084, 0x088, 0x08C].map (decodeTableWord 32) =
    [some .rdPdCfg0, some .rdPdCfg1, some .rdPdCfg2, some .rdPdCfg3, some .rdPdDat,
      some .rdPdDrv0, some .rdPdDrv1, some .rdPdPul0, some .rdPdPul1] := by decide
theorem test_decode_wr_pd : [0x06C, 0x070, 0x074, 0x078, 0x07C, 0x080, 0x084, 0x088, 0x08C].map (fun off => decodeWr off 0x89ABCDEF) =
    [.wrPdCfg0 0x89ABCDEF, .wrPdCfg1 0x89ABCDEF, .wrPdCfg2 0x89ABCDEF,
      .wrPdCfg3 0x89ABCDEF, .wrPdDat 0x89ABCDEF, .wrPdDrv0 0x89ABCDEF,
      .wrPdDrv1 0x89ABCDEF, .wrPdPul0 0x89ABCDEF, .wrPdPul1 0x89ABCDEF] := by decide
theorem test_decode_rd_pe : [0x090, 0x094, 0x098, 0x09C, 0x0A0, 0x0A4, 0x0A8, 0x0AC, 0x0B0].map (decodeTableWord 32) =
    [some .rdPeCfg0, some .rdPeCfg1, some .rdPeCfg2, some .rdPeCfg3, some .rdPeDat,
      some .rdPeDrv0, some .rdPeDrv1, some .rdPePul0, some .rdPePul1] := by decide
theorem test_decode_wr_pe : [0x090, 0x094, 0x098, 0x09C, 0x0A0, 0x0A4, 0x0A8, 0x0AC, 0x0B0].map (fun off => decodeWr off 0x89ABCDEF) =
    [.wrPeCfg0 0x89ABCDEF, .wrPeCfg1 0x89ABCDEF, .wrPeCfg2 0x89ABCDEF,
      .wrPeCfg3 0x89ABCDEF, .wrPeDat 0x89ABCDEF, .wrPeDrv0 0x89ABCDEF,
      .wrPeDrv1 0x89ABCDEF, .wrPePul0 0x89ABCDEF, .wrPePul1 0x89ABCDEF] := by decide
theorem test_decode_rd_pf : [0x0B4, 0x0B8, 0x0BC, 0x0C0, 0x0C4, 0x0C8, 0x0CC, 0x0D0, 0x0D4].map (decodeTableWord 32) =
    [some .rdPfCfg0, some .rdPfCfg1, some .rdPfCfg2, some .rdPfCfg3, some .rdPfDat,
      some .rdPfDrv0, some .rdPfDrv1, some .rdPfPul0, some .rdPfPul1] := by decide
theorem test_decode_wr_pf : [0x0B4, 0x0B8, 0x0BC, 0x0C0, 0x0C4, 0x0C8, 0x0CC, 0x0D0, 0x0D4].map (fun off => decodeWr off 0x89ABCDEF) =
    [.wrPfCfg0 0x89ABCDEF, .wrPfCfg1 0x89ABCDEF, .wrPfCfg2 0x89ABCDEF,
      .wrPfCfg3 0x89ABCDEF, .wrPfDat 0x89ABCDEF, .wrPfDrv0 0x89ABCDEF,
      .wrPfDrv1 0x89ABCDEF, .wrPfPul0 0x89ABCDEF, .wrPfPul1 0x89ABCDEF] := by decide
theorem test_decode_rd_pg : [0x0D8, 0x0DC, 0x0E0, 0x0E4, 0x0E8, 0x0EC, 0x0F0, 0x0F4, 0x0F8].map (decodeTableWord 32) =
    [some .rdPgCfg0, some .rdPgCfg1, some .rdPgCfg2, some .rdPgCfg3, some .rdPgDat,
      some .rdPgDrv0, some .rdPgDrv1, some .rdPgPul0, some .rdPgPul1] := by decide
theorem test_decode_wr_pg : [0x0D8, 0x0DC, 0x0E0, 0x0E4, 0x0E8, 0x0EC, 0x0F0, 0x0F4, 0x0F8].map (fun off => decodeWr off 0x89ABCDEF) =
    [.wrPgCfg0 0x89ABCDEF, .wrPgCfg1 0x89ABCDEF, .wrPgCfg2 0x89ABCDEF,
      .wrPgCfg3 0x89ABCDEF, .wrPgDat 0x89ABCDEF, .wrPgDrv0 0x89ABCDEF,
      .wrPgDrv1 0x89ABCDEF, .wrPgPul0 0x89ABCDEF, .wrPgPul1 0x89ABCDEF] := by decide
theorem test_decode_rd_ph : [0x0FC, 0x100, 0x104, 0x108, 0x10C, 0x110, 0x114, 0x118, 0x11C].map (decodeTableWord 32) =
    [some .rdPhCfg0, some .rdPhCfg1, some .rdPhCfg2, some .rdPhCfg3, some .rdPhDat,
      some .rdPhDrv0, some .rdPhDrv1, some .rdPhPul0, some .rdPhPul1] := by decide
theorem test_decode_wr_ph : [0x0FC, 0x100, 0x104, 0x108, 0x10C, 0x110, 0x114, 0x118, 0x11C].map (fun off => decodeWr off 0x89ABCDEF) =
    [.wrPhCfg0 0x89ABCDEF, .wrPhCfg1 0x89ABCDEF, .wrPhCfg2 0x89ABCDEF,
      .wrPhCfg3 0x89ABCDEF, .wrPhDat 0x89ABCDEF, .wrPhDrv0 0x89ABCDEF,
      .wrPhDrv1 0x89ABCDEF, .wrPhPul0 0x89ABCDEF, .wrPhPul1 0x89ABCDEF] := by decide
theorem test_decode_rd_pi : [0x120, 0x124, 0x128, 0x12C, 0x130, 0x134, 0x138, 0x13C, 0x140].map (decodeTableWord 32) =
    [some .rdPiCfg0, some .rdPiCfg1, some .rdPiCfg2, some .rdPiCfg3, some .rdPiDat,
      some .rdPiDrv0, some .rdPiDrv1, some .rdPiPul0, some .rdPiPul1] := by decide
theorem test_decode_wr_pi : [0x120, 0x124, 0x128, 0x12C, 0x130, 0x134, 0x138, 0x13C, 0x140].map (fun off => decodeWr off 0x89ABCDEF) =
    [.wrPiCfg0 0x89ABCDEF, .wrPiCfg1 0x89ABCDEF, .wrPiCfg2 0x89ABCDEF,
      .wrPiCfg3 0x89ABCDEF, .wrPiDat 0x89ABCDEF, .wrPiDrv0 0x89ABCDEF,
      .wrPiDrv1 0x89ABCDEF, .wrPiPul0 0x89ABCDEF, .wrPiPul1 0x89ABCDEF] := by decide
theorem test_decode_rd_global : [0x200, 0x204, 0x208, 0x20C, 0x210, 0x214, 0x218].map (decodeTableWord 32) =
    [some .rdIntCfg0, some .rdIntCfg1, some .rdIntCfg2, some .rdIntCfg3,
      some .rdIntCtl, some .rdIntSta, some .rdIntDeb] := by decide
theorem test_decode_wr_global : [0x200, 0x204, 0x208, 0x20C, 0x210, 0x214, 0x218].map (fun off => decodeWr off 0xDEADBEEF) =
    [.wrIntCfg0 0xDEADBEEF, .wrIntCfg1 0xDEADBEEF, .wrIntCfg2 0xDEADBEEF, .wrIntCfg3 0xDEADBEEF,
      .wrIntCtl 0xDEADBEEF, .wrIntSta 0xDEADBEEF, .wrIntDeb 0xDEADBEEF] := by decide
theorem test_decode_rd_rest : [0x002, 0x144, 0x1FC, 0x211, 0x21C, 0x3FC].map (decodeTableWord 32) =
    [some (.rdMisaligned 0x002), some (.rdUnmapped 0x144), some (.rdUnmapped 0x1FC), some (.rdMisaligned 0x211),
      some (.rdUnmapped 0x21C), some (.rdUnmapped 0x3FC)] := by decide
theorem test_decode_wr_rest : [0x216, 0x144].map (fun off => decodeWr off 1) =
    [.wrMisaligned 0x216 1, .wrUnmapped 0x144 1] := by decide
theorem test_decode_control : [Op.pin 7 27 true, .rst, .aSel, .aDesel, .aRst, .cSel, .cDesel, .cRst].map
      (fun op => (decode cfg ⟨.phase0, .phase0, false⟩ op).toOption) =
    [some (.pin 7 27 true), some .rst, some .aSel, some .aDesel, some .aRst, some .cSel, some .cDesel, some .cRst] := by
  decide
theorem test_decode_tx : [Phase.phase0, .phase1, .used].map (fun c => decodeTx ⟨c, .phase0, false⟩ 0b10000001) =
    [.aTxPointer 0x81, .aTxData 0x81, .aTxOversized 0x81] := by decide
theorem test_decode_rx : [Phase.phase0, .phase1, .used].map (fun c => decodeRx ⟨c, .phase0, false⟩) =
    [.aRxFirst, .aRxData, .aRxOversized] := by decide
theorem test_decode_xfer_command : [0b11000010, 0b10000001, 0b10111111, 0b00000001, 0b01111111].map (decodeTableWord 8) =
    [some (.cXferReadCommand 2), some (.cXferWriteCommand 1), some (.cXferWriteCommand 63),
      some (.cXferStartFlagClear 1), some (.cXferStartFlagClear 0x7F)] := by decide
theorem test_decode_xfer_data : [(Phase.phase1, true), (.phase1, false), (.used, true)].map
      (fun c => decodeXfer ⟨.phase0, c.1, c.2⟩ 0b11000010) =
    [.cXferReadData 0xC2, .cXferWriteData 0xC2, .cXferOversized 0xC2] := by decide
/-- R56, R72: what the decoder rejects, by name. -/
theorem test_decode_rejects : [Op.rd 1 0x000, .wr 8 0x000 0, .pin 9 0 true, .pin 7 28 true].map
      (fun op => (decode cfg ⟨.phase0, .phase0, false⟩ op == .error (.accessWidth 1)) ||
        (decode cfg ⟨.phase0, .phase0, false⟩ op == .error (.accessWidth 8)) ||
        (decode cfg ⟨.phase0, .phase0, false⟩ op == .error .pinOutOfRange)) = [true, true, true, true] := by decide

/-! ## Reads of GPIO: each register's own word (R21) -/

theorem test_rd_pa : [.rdPaCfg0, .rdPaCfg1, .rdPaCfg2, .rdPaCfg3, .rdPaDat, .rdPaDrv0, .rdPaDrv1, .rdPaPul0, .rdPaPul1].map
      (fun i => after (·.reply.value) (exec i numbered)) =
    [1, 2, 3, 4, 5, 6, 7, 8, 9].map (fun v => some (.word v)) := by decide +kernel
theorem test_rd_pb : [.rdPbCfg0, .rdPbCfg1, .rdPbCfg2, .rdPbCfg3, .rdPbDat, .rdPbDrv0, .rdPbDrv1, .rdPbPul0, .rdPbPul1].map
      (fun i => after (·.reply.value) (exec i numbered)) =
    [10, 11, 12, 13, 14, 15, 16, 17, 18].map (fun v => some (.word v)) := by decide +kernel
theorem test_rd_pc : [.rdPcCfg0, .rdPcCfg1, .rdPcCfg2, .rdPcCfg3, .rdPcDat, .rdPcDrv0, .rdPcDrv1, .rdPcPul0, .rdPcPul1].map
      (fun i => after (·.reply.value) (exec i numbered)) =
    [19, 20, 21, 22, 23, 24, 25, 26, 27].map (fun v => some (.word v)) := by decide +kernel
theorem test_rd_pd : [.rdPdCfg0, .rdPdCfg1, .rdPdCfg2, .rdPdCfg3, .rdPdDat, .rdPdDrv0, .rdPdDrv1, .rdPdPul0, .rdPdPul1].map
      (fun i => after (·.reply.value) (exec i numbered)) =
    [28, 29, 30, 31, 32, 33, 34, 35, 36].map (fun v => some (.word v)) := by decide +kernel
theorem test_rd_pe : [.rdPeCfg0, .rdPeCfg1, .rdPeCfg2, .rdPeCfg3, .rdPeDat, .rdPeDrv0, .rdPeDrv1, .rdPePul0, .rdPePul1].map
      (fun i => after (·.reply.value) (exec i numbered)) =
    [37, 38, 39, 40, 41, 42, 43, 44, 45].map (fun v => some (.word v)) := by decide +kernel
theorem test_rd_pf : [.rdPfCfg0, .rdPfCfg1, .rdPfCfg2, .rdPfCfg3, .rdPfDat, .rdPfDrv0, .rdPfDrv1, .rdPfPul0, .rdPfPul1].map
      (fun i => after (·.reply.value) (exec i numbered)) =
    [46, 47, 48, 49, 50, 51, 52, 53, 54].map (fun v => some (.word v)) := by decide +kernel
theorem test_rd_pg : [.rdPgCfg0, .rdPgCfg1, .rdPgCfg2, .rdPgCfg3, .rdPgDat, .rdPgDrv0, .rdPgDrv1, .rdPgPul0, .rdPgPul1].map
      (fun i => after (·.reply.value) (exec i numbered)) =
    [55, 56, 57, 58, 59, 60, 61, 62, 63].map (fun v => some (.word v)) := by decide +kernel
theorem test_rd_ph : [.rdPhCfg0, .rdPhCfg1, .rdPhCfg2, .rdPhCfg3, .rdPhDat, .rdPhDrv0, .rdPhDrv1, .rdPhPul0, .rdPhPul1].map
      (fun i => after (·.reply.value) (exec i numbered)) =
    [64, 65, 66, 67, 68, 69, 70, 71, 72].map (fun v => some (.word v)) := by decide +kernel
theorem test_rd_pi : [.rdPiCfg0, .rdPiCfg1, .rdPiCfg2, .rdPiCfg3, .rdPiDat, .rdPiDrv0, .rdPiDrv1, .rdPiPul0, .rdPiPul1].map
      (fun i => after (·.reply.value) (exec i numbered)) =
    [73, 74, 75, 76, 77, 78, 79, 80, 81].map (fun v => some (.word v)) := by decide +kernel
theorem test_rd_global : [.rdIntCfg0, .rdIntCfg1, .rdIntCfg2, .rdIntCfg3, .rdIntCtl, .rdIntSta, .rdIntDeb].map
      (fun i => after (·.reply.value) (exec i numbered)) =
    [129, 130, 131, 132, 133, 134, 135].map (fun v => some (.word v)) := by decide +kernel
/-- V24: a read of INT_STA leaves it. -/
theorem test_rd_status_keeps_it :
    after (fun t => (t.reply, t.gpio.word 133)) (exec .rdIntSta (withWords [(133, 1)])) =
      some (⟨.word 1, []⟩, 1) := by decide +kernel
/-- V7, V8. -/
theorem test_rd_unmapped :
    [(Instr.rdUnmapped 0x144, 0x144), (.rdUnmapped 0x3FC, 0x3FC), (.rdMisaligned 0x211, 0x211)].map
      (fun i => after (·.reply) (exec i.1 numbered) == some ⟨.word 0, [.guestError i.2 none]⟩) =
    [true, true, true] := by decide +kernel
/-- V10: with N = 1 the row of PB.CFG0 is unmapped, and PUL1 of port 0 is not. -/
theorem test_rd_one_port :
    [Instr.rdPbCfg0, .rdPaPul1].map
      (fun i => after (·.reply) (exec i { numbered with cfg := { cfg with pins := [18] } })) =
    [some ⟨.word 0, [.guestError 0x024 none]⟩, some ⟨.word 9, []⟩] := by decide +kernel

/-! ## Writes of GPIO: 0xFFFFFFFF read back through each mask (V1) -/

theorem test_wr_pa : [(Instr.wrPaCfg0 0xFFFFFFFF, 0), (Instr.wrPaCfg1 0xFFFFFFFF, 1), (Instr.wrPaCfg2 0xFFFFFFFF, 2),
      (.wrPaCfg3 0xFFFFFFFF, 3), (.wrPaDat 0xFFFFFFFF, 4), (.wrPaDrv0 0xFFFFFFFF, 5),
      (.wrPaDrv1 0xFFFFFFFF, 6), (.wrPaPul0 0xFFFFFFFF, 7), (.wrPaPul1 0xFFFFFFFF, 8)].map
      (fun i => after (·.gpio.word i.2) (exec i.1 start)) =
    [some 0x77777777, some 0x77777777, some 0x00000077, some 0x00000000, some 0x0003FFFF,
      some 0xFFFFFFFF, some 0x0000000F, some 0xFFFFFFFF, some 0x0000000F] := by decide +kernel
theorem test_wr_pb : [(Instr.wrPbCfg0 0xFFFFFFFF, 9), (Instr.wrPbCfg1 0xFFFFFFFF, 10), (Instr.wrPbCfg2 0xFFFFFFFF, 11),
      (.wrPbCfg3 0xFFFFFFFF, 12), (.wrPbDat 0xFFFFFFFF, 13), (.wrPbDrv0 0xFFFFFFFF, 14),
      (.wrPbDrv1 0xFFFFFFFF, 15), (.wrPbPul0 0xFFFFFFFF, 16), (.wrPbPul1 0xFFFFFFFF, 17)].map
      (fun i => after (·.gpio.word i.2) (exec i.1 start)) =
    [some 0x77777777, some 0x77777777, some 0x77777777, some 0x00000000, some 0x00FFFFFF,
      some 0xFFFFFFFF, some 0x0000FFFF, some 0xFFFFFFFF, some 0x0000FFFF] := by decide +kernel
theorem test_wr_pc : [(Instr.wrPcCfg0 0xFFFFFFFF, 18), (Instr.wrPcCfg1 0xFFFFFFFF, 19), (Instr.wrPcCfg2 0xFFFFFFFF, 20),
      (.wrPcCfg3 0xFFFFFFFF, 21), (.wrPcDat 0xFFFFFFFF, 22), (.wrPcDrv0 0xFFFFFFFF, 23),
      (.wrPcDrv1 0xFFFFFFFF, 24), (.wrPcPul0 0xFFFFFFFF, 25), (.wrPcPul1 0xFFFFFFFF, 26)].map
      (fun i => after (·.gpio.word i.2) (exec i.1 start)) =
    [some 0x77777777, some 0x77777777, some 0x77777777, some 0x00000007, some 0x01FFFFFF,
      some 0xFFFFFFFF, some 0x0003FFFF, some 0xFFFFFFFF, some 0x0003FFFF] := by decide +kernel
theorem test_wr_pd : [(Instr.wrPdCfg0 0xFFFFFFFF, 27), (Instr.wrPdCfg1 0xFFFFFFFF, 28), (Instr.wrPdCfg2 0xFFFFFFFF, 29),
      (.wrPdCfg3 0xFFFFFFFF, 30), (.wrPdDat 0xFFFFFFFF, 31), (.wrPdDrv0 0xFFFFFFFF, 32),
      (.wrPdDrv1 0xFFFFFFFF, 33), (.wrPdPul0 0xFFFFFFFF, 34), (.wrPdPul1 0xFFFFFFFF, 35)].map
      (fun i => after (·.gpio.word i.2) (exec i.1 start)) =
    [some 0x77777777, some 0x77777777, some 0x77777777, some 0x00007777, some 0x0FFFFFFF,
      some 0xFFFFFFFF, some 0x00FFFFFF, some 0xFFFFFFFF, some 0x00FFFFFF] := by decide +kernel
theorem test_wr_pe : [(Instr.wrPeCfg0 0xFFFFFFFF, 36), (Instr.wrPeCfg1 0xFFFFFFFF, 37), (Instr.wrPeCfg2 0xFFFFFFFF, 38),
      (.wrPeCfg3 0xFFFFFFFF, 39), (.wrPeDat 0xFFFFFFFF, 40), (.wrPeDrv0 0xFFFFFFFF, 41),
      (.wrPeDrv1 0xFFFFFFFF, 42), (.wrPePul0 0xFFFFFFFF, 43), (.wrPePul1 0xFFFFFFFF, 44)].map
      (fun i => after (·.gpio.word i.2) (exec i.1 start)) =
    [some 0x77777777, some 0x00007777, some 0x00000000, some 0x00000000, some 0x00000FFF,
      some 0x00FFFFFF, some 0x00000000, some 0x00FFFFFF, some 0x00000000] := by decide +kernel
theorem test_wr_pf : [(Instr.wrPfCfg0 0xFFFFFFFF, 45), (Instr.wrPfCfg1 0xFFFFFFFF, 46), (Instr.wrPfCfg2 0xFFFFFFFF, 47),
      (.wrPfCfg3 0xFFFFFFFF, 48), (.wrPfDat 0xFFFFFFFF, 49), (.wrPfDrv0 0xFFFFFFFF, 50),
      (.wrPfDrv1 0xFFFFFFFF, 51), (.wrPfPul0 0xFFFFFFFF, 52), (.wrPfPul1 0xFFFFFFFF, 53)].map
      (fun i => after (·.gpio.word i.2) (exec i.1 start)) =
    [some 0x00777777, some 0x00000000, some 0x00000000, some 0x00000000, some 0x0000003F,
      some 0x00000FFF, some 0x00000000, some 0x00000FFF, some 0x00000000] := by decide +kernel
theorem test_wr_pg : [(Instr.wrPgCfg0 0xFFFFFFFF, 54), (Instr.wrPgCfg1 0xFFFFFFFF, 55), (Instr.wrPgCfg2 0xFFFFFFFF, 56),
      (.wrPgCfg3 0xFFFFFFFF, 57), (.wrPgDat 0xFFFFFFFF, 58), (.wrPgDrv0 0xFFFFFFFF, 59),
      (.wrPgDrv1 0xFFFFFFFF, 60), (.wrPgPul0 0xFFFFFFFF, 61), (.wrPgPul1 0xFFFFFFFF, 62)].map
      (fun i => after (·.gpio.word i.2) (exec i.1 start)) =
    [some 0x77777777, some 0x00007777, some 0x00000000, some 0x00000000, some 0x00000FFF,
      some 0x00FFFFFF, some 0x00000000, some 0x00FFFFFF, some 0x00000000] := by decide +kernel
theorem test_wr_ph : [(Instr.wrPhCfg0 0xFFFFFFFF, 63), (Instr.wrPhCfg1 0xFFFFFFFF, 64), (Instr.wrPhCfg2 0xFFFFFFFF, 65),
      (.wrPhCfg3 0xFFFFFFFF, 66), (.wrPhDat 0xFFFFFFFF, 67), (.wrPhDrv0 0xFFFFFFFF, 68),
      (.wrPhDrv1 0xFFFFFFFF, 69), (.wrPhPul0 0xFFFFFFFF, 70), (.wrPhPul1 0xFFFFFFFF, 71)].map
      (fun i => after (·.gpio.word i.2) (exec i.1 start)) =
    [some 0x77777777, some 0x77777777, some 0x77777777, some 0x00007777, some 0x0FFFFFFF,
      some 0xFFFFFFFF, some 0x00FFFFFF, some 0xFFFFFFFF, some 0x00FFFFFF] := by decide +kernel
theorem test_wr_pi : [(Instr.wrPiCfg0 0xFFFFFFFF, 72), (Instr.wrPiCfg1 0xFFFFFFFF, 73), (Instr.wrPiCfg2 0xFFFFFFFF, 74),
      (.wrPiCfg3 0xFFFFFFFF, 75), (.wrPiDat 0xFFFFFFFF, 76), (.wrPiDrv0 0xFFFFFFFF, 77),
      (.wrPiDrv1 0xFFFFFFFF, 78), (.wrPiPul0 0xFFFFFFFF, 79), (.wrPiPul1 0xFFFFFFFF, 80)].map
      (fun i => after (·.gpio.word i.2) (exec i.1 start)) =
    [some 0x77777777, some 0x77777777, some 0x00777777, some 0x00000000, some 0x003FFFFF,
      some 0xFFFFFFFF, some 0x00000FFF, some 0xFFFFFFFF, some 0x00000FFF] := by decide +kernel
/-- V3: bit 3 of a nibble is dropped. -/
theorem test_wr_drops_bit_three :
    after (·.gpio.word 0) (exec (.wrPaCfg0 0x89ABCDEF) start) = some 0x01234567 := by decide +kernel
/-- V11: codes 0 to 5 on PF with data 1: PF0 lowered, PF1 driven, the reserved pins hold. -/
theorem test_wr_direction_codes :
    after (fun t => (List.range 6).map (t.gpio.line 5)) (exec (.wrPfCfg0 0x00543210) (withWords [(49, 0x3F)])) =
      some [false, true, false, false, false, false] := by decide +kernel
/-- V12: a reserved pin holds a high line. -/
theorem test_wr_reserved_holds :
    after (fun t => (List.range 2).map (t.gpio.line 5))
        (exec (.wrPfCfg0 0x00000021) (withWords [(49, 0x03), (45, 0x11)] [(5, 0), (5, 1)])) =
      some [true, true] := by decide +kernel
/-- V12: becoming an input lowers the line. -/
theorem test_wr_input_lowers :
    after (·.gpio.line 5 1) (exec (.wrPfCfg0 0x00000001) (withWords [(49, 0x03), (45, 0x21)] [(5, 0), (5, 1)])) =
      some false := by decide +kernel
/-- P1: a write to PUL0 drives a line left stale by a stimulus. -/
theorem test_wr_pull_drives_lines :
    after (·.gpio.line 5 0) (exec (.wrPfPul0 0) (withWords [(49, 0x3B), (45, 0x111)] [(5, 1)])) = some true := by
  decide +kernel
/-- V28: a write to port PA does not evaluate PI; a write to PI does. -/
theorem test_wr_evaluates_own_port :
    [Instr.wrPaDat 0, .wrPiPul0 0].map (fun i => after (fun t => (t.gpio.word 133, t.gpio.irq))
        (exec i (withWords [(130, 0x02000000), (132, 0x00400000), (76, 0x400)]))) =
      [some (0, false), some (0x00400000, true)] := by decide +kernel
/-- V19: an edge mode never fires from a write. -/
theorem test_wr_data_fires_no_edge :
    after (·.gpio.word 133) (exec (.wrPhDat 0x0000FFFF) start) = some 0 := by decide +kernel
/-- R111: a level mode fires from a write of the data word. -/
theorem test_wr_data_fires_level :
    after (·.gpio.word 133) (exec (.wrPhDat 0x00000003) (withWords [(128, 0x22)])) = some 3 := by decide +kernel
/-- R149's example. -/
theorem test_wr_mode_fires_low_level :
    after (·.gpio.word 133) (exec (.wrIntCfg0 0x00000003) start) = some 1 := by decide +kernel
/-- V18. -/
theorem test_wr_mode_high_level :
    after (·.gpio.word 133) (exec (.wrIntCfg1 0x22222222) (withWords [(133, 0xFF)])) = some 0xFF := by decide +kernel
/-- V17: line 22 lies in INT_CFG2, slot 6. -/
theorem test_wr_mode_of_line_22 :
    after (fun t => (t.gpio.word 130, t.gpio.mode 22, t.gpio.mode 21)) (exec (.wrIntCfg2 0x01000000) start) =
      some (0x01000000, 1, 0) := by decide +kernel
/-- V23: every bit is stored. -/
theorem test_wr_global_stores_all :
    [(Instr.wrIntCfg3 0xFFFFFFFF, 131), (.wrIntCtl 0xFFFFFFFF, 132), (.wrIntDeb 0xDEADBEEF, 134)].map
      (fun i => after (·.gpio.word i.2) (exec i.1 start)) =
    [some 0xFFFFFFFF, some 0xFFFFFFFF, some 0xDEADBEEF] := by decide +kernel
/-- R152's example: enabling a pending line raises irq. -/
theorem test_wr_enable_raises_irq :
    after (·.gpio.irq) (exec (.wrIntCtl 0x00000004) (withWords [(133, 4)])) = some true := by decide +kernel
/-- R151's example. -/
theorem test_wr_status_clears :
    after (fun t => (t.gpio.word 133, t.gpio.irq)) (exec (.wrIntSta 1) (withWords [(133, 5), (132, 1)] [] true)) =
      some (4, false) := by decide +kernel
/-- V27: with W1C_REEVAL the bit of a level that holds comes back. -/
theorem test_wr_status_reeval :
    [false, true].map (fun r => after (fun t => (t.gpio.word 133, t.gpio.irq)) (exec (.wrIntSta 0x00400000)
        { withWords [(130, 0x02000000), (132, 0x00400000), (76, 0x400), (133, 0x00400000)] [] true with
          cfg := { cfg with w1cReeval := r } })) =
      [some (0, false), some (0x00400000, true)] := by decide +kernel
/-- P3: a write of INT_DEB evaluates every port. -/
theorem test_wr_debounce_evaluates :
    after (fun t => (t.gpio.word 134, t.gpio.word 133)) (exec (.wrIntDeb 1) (withWords [(130, 0x02000000), (76, 0x400)])) =
      some (1, 0x00400000) := by decide +kernel
/-- V9, P6. -/
theorem test_wr_unmapped :
    [(Instr.wrUnmapped 0x144 0xFFFFFFFF, 0x144), (.wrMisaligned 0x216 0xFFFFFFFF, 0x216)].map
      (fun i => after (fun t => (t.reply.diags, t.gpio == (withWords [(133, 2)]).gpio)) (exec i.1 (withWords [(133, 2)]))) =
    [some ([.guestError 0x144 (some 0xFFFFFFFF)], true), some ([.guestError 0x216 (some 0xFFFFFFFF)], true)] := by
  decide +kernel

/-! ## The pin stimulus and the resets -/

/-- S3: a rising edge on PH0 sets status bit 0 and, line 0 enabled, raises irq. -/
theorem test_pin_rising_edge :
    after (fun t => (t.gpio.word 133, t.gpio.word 67, t.gpio.irq)) (exec (.pin 7 0 true) (withWords [(132, 1)])) =
      some (1, 1, true) := by decide +kernel
/-- V25: an output pin stores the level, fires nothing, and its line stays. -/
theorem test_pin_on_output :
    after (fun t => (t.gpio.word 133, t.gpio.word 67, t.gpio.line 7 0))
        (exec (.pin 7 0 true) (withWords [(63, 1), (132, 1)])) = some (0, 1, false) := by decide +kernel
/-- V30: the highest pin of PH is 27, unmapped; pin 28 is refused. -/
theorem test_pin_range :
    (after (fun t => (t.gpio.word 67, t.gpio.word 133)) (exec (.pin 7 27 true) start),
      refusal (exec (.pin 7 28 true) start)) = (some (0x08000000, 0), some .pinOutOfRange) := by decide +kernel
/-- V31: PI19 is line 31. -/
theorem test_pin_highest_line :
    after (fun t => (t.gpio.word 133, t.gpio.word 76)) (exec (.pin 8 19 true) start) =
      some (0x80000000, 0x00080000) := by decide +kernel
/-- V32: other pins are not evaluated. -/
theorem test_pin_evaluates_itself :
    after (·.gpio.word 133) (exec (.pin 7 0 true) (withWords [(128, 0x20), (67, 2)])) = some 1 := by decide +kernel
/-- V33. -/
theorem test_rst :
    after (fun t => t.gpio == Gpio.reset) (exec .rst (withWords [(133, 5), (132, 1), (0, 7)] [(0, 0)] true)) =
      some true := by decide +kernel
/-- R188: a sensor's reset, from the middle of a frame. -/
theorem test_sensor_reset :
    (after (fun t => (t.sensA.id, t.sensA.ctrl, t.sensA.ptr, t.sensA.cnt)) (exec .aRst (atA .used 0x02 0x01)),
      after (fun t => (t.sensC.id, t.sensC.ctrl, t.sensC.ptr, t.sensC.cnt)) (exec .cRst (atC .phase1 0xC2 0x01))) =
    (some (0x5A, 0x00, 0x00, .phase0), some (0xC3, 0x00, 0x00, .phase0)) := by decide +kernel
/-- V48, V49: a frame start clears the cursor and not CTRL; a frame end clears nothing. -/
theorem test_framing :
    [after (fun t => (t.sensA.ctrl, t.sensA.ptr, t.sensA.cnt)) (exec .aSel (atA .phase1 0x02 0x01)),
      after (fun t => (t.sensA.ctrl, t.sensA.ptr, t.sensA.cnt)) (exec .aDesel (atA .phase1 0x02 0x01)),
      after (fun t => (t.sensC.ctrl, t.sensC.ptr, t.sensC.cnt)) (exec .cSel (atC .used 0xC2 0x01)),
      after (fun t => (t.sensC.ctrl, t.sensC.ptr, t.sensC.cnt)) (exec .cDesel (atC .used 0xC2 0x01))] =
    [some (0x01, 0x00, .phase0), some (0x01, 0x02, .phase1), some (0x01, 0x00, .phase0), some (0x01, 0xC2, .used)] := by
  decide +kernel

/-! ## SENS_A -/

/-- R201's example, and a pointer that names no register. -/
theorem test_tx_pointer :
    [0x02, 0xFF].map (fun b => after (fun t => (t.sensA.ptr, t.sensA.cnt, t.reply.diags))
      (exec (.aTxPointer b) (atA .phase0 0x00))) = [some (0x02, .phase1, []), some (0xFF, .phase1, [])] := by
  decide +kernel
/-- R202's examples, V45, V46: only pointer 1 is written. -/
theorem test_tx_data :
    [0x00, 0x01, 0x02, 0xFF].map (fun p => after (fun t => (t.sensA.ctrl, t.sensA.cnt, t.reply.diags))
      (exec (.aTxData 0x77) (atA .phase1 p))) =
    [some (0x00, .used, [.writeRejected]), some (0x77, .used, []), some (0x00, .used, [.writeRejected]),
      some (0x00, .used, [.writeRejected])] := by decide +kernel
/-- V47. -/
theorem test_tx_oversized :
    after (fun t => (t.sensA, t.reply)) (exec (.aTxOversized 0x00) (atA .used 0x01 0x01)) =
      some ((atA .used 0x01 0x01).sensA, ⟨.nothing, [.oversized]⟩) := by decide +kernel
/-- V50. -/
theorem test_rx_first_refused : refusal (exec .aRxFirst (atA .phase0 0x00)) = some .readBeforePointer := by
  decide +kernel
/-- V40, V41, V42: ID, CTRL, and the sentinel of a disabled sensor, which is stored. -/
theorem test_rx_data :
    [0x00, 0x01, 0x02].map (fun p => after (fun t => (t.reply, t.sensA.temp, t.sensA.cnt))
      (exec .aRxData (atA .phase1 p 0x10))) =
    [some (⟨.byte 0x5A, []⟩, 0x00, .used), some (⟨.byte 0x10, []⟩, 0x00, .used),
      some (⟨.byte 0xFF, []⟩, 0xFF, .used)] := by decide +kernel
/-- V43: an enabled sensor answers with a member of MEAS_SET. -/
theorem test_rx_measurement :
    ∃ m ∈ cfg.sensA.measSet, after (·.reply.value) (exec .aRxData (atA .phase1 0x02 0x01)) = some (.byte m) :=
  ⟨measurement .a cfg.sensA 0, measurement_mem _ _ _, rfl⟩
/-- V46, V47. -/
theorem test_rx_diagnostics :
    (after (fun t => (t.reply.diags, t.sensA.cnt)) (exec .aRxData (atA .phase1 0x03)),
      after (fun t => (t.reply.diags, t.sensA.cnt)) (exec .aRxOversized (atA .used 0x00))) =
    (some ([.readNonexistent], .used), some ([.oversized], .used)) := by decide +kernel

/-! ## SENS_C, default layout -/

/-- R218's example: a read command on TEMPERATURE refreshes it, here to the sentinel. -/
theorem test_xfer_read_command :
    after (fun t => (t.sensC.ptr, t.sensC.cnt, t.sensC.temp, t.reply.diags))
        (exec (.cXferReadCommand 2) (atC .phase0 0x00)) = some (0xC2, .phase1, 0xFF, []) := by decide +kernel
/-- V56: a write command on TEMPERATURE does not. -/
theorem test_xfer_write_command :
    after (fun t => (t.sensC.ptr, t.sensC.cnt, t.sensC.temp, t.reply.diags))
        (exec (.cXferWriteCommand 2) (atC .phase0 0x00)) = some (0x82, .phase1, 0x00, []) := by decide +kernel
/-- V55: a command byte with the start flag clear is refused; the same byte is data in the data phase. -/
theorem test_xfer_start_flag_clear :
    (refusal (exec (.cXferStartFlagClear 1) (atC .phase0 0x00)),
      after (·.sensC.ctrl) (exec (.cXferStartFlagClear 1) (atC .phase1 0x81))) = (some .startFlagClear, some 0x01) := by
  decide +kernel
/-- V52, V54: ID and CTRL are returned and the byte sent is ignored. -/
theorem test_xfer_read_data :
    [0xC0, 0xC1].map (fun p => after (fun t => (t.reply, t.sensC.ctrl, t.sensC.cnt))
      (exec (.cXferReadData 0xAA) (atC .phase1 p 0x01))) =
    [some (⟨.byte 0xC3, []⟩, 0x01, .used), some (⟨.byte 0x01, []⟩, 0x01, .used)] := by decide +kernel
/-- V55: a read of a register that does not exist. -/
theorem test_xfer_read_nonexistent :
    after (fun t => (t.reply.diags, t.sensC.cnt)) (exec (.cXferReadData 0x00) (atC .phase1 0xC3)) =
      some ([.readNonexistent], .used) := by decide +kernel
/-- V54, V55: a write to CTRL, under CTRL_WMASK = 0x01; a write to ID is rejected. -/
theorem test_xfer_write_data :
    [0x81, 0x80].map (fun p => after (fun t => (t.sensC.ctrl, t.sensC.cnt, t.reply.diags))
      (exec (.cXferWriteData 0x55) (atC .phase1 p))) =
    [some (0x01, .used, []), some (0x00, .used, [.writeRejected])] := by decide +kernel
/-- V57: a third byte is no command. -/
theorem test_xfer_oversized :
    after (fun t => (t.sensC.ptr, t.sensC.cnt, t.reply.diags)) (exec (.cXferOversized 0xC1) (atC .used 0xC0)) =
      some (0xC0, .used, [.oversized]) := by decide +kernel
/-- R225, U28: the unreachable state. -/
theorem test_xfer_data_without_start :
    refusal (exec (.cXferWriteData 0x00) (atC .phase1 0x00)) = some .dataWithoutStart := by decide +kernel

/-! ## The step -/

theorem test_step_waits : after (· == start) (step start) = some true := by decide +kernel
theorem test_step_refuses_width :
    refusal (step (ask [.rd 2 0x000] start)) = some (.accessWidth 2) := by decide +kernel
theorem test_step_takes_one :
    after (fun t => (t.pending, t.gpio.word 132)) (step (ask [.wr 4 0x210 7, .rst] start)) = some ([.rst], 7) := by
  decide +kernel
theorem test_withFetchWord_runs :
    (after (·.reply.value) (step (numbered.withFetchWord 32 0x10C)),
      after (fun t => (t.sensC.ptr, t.sensC.cnt)) (step ((atC .used 0x81).withFetchWord 8 0xC0)),
      after (·.gpio.word 0) (step (numbered.withFetchWord 0 0))) =
    (some (.word 68), some (0xC0, .phase1), some 0) := by decide +kernel

/-! ## Witnesses: for each statement with hypotheses, a state and operands that meet them all -/

/-- A block of N = 14 ports of 32 pins, the largest of R9, with a pin mapped on the last port. -/
def wide : State :=
  { start with cfg := { cfg with pins := List.replicate 14 32,
                                 irqLine := List.replicate 13 [] ++ [List.replicate 31 none ++ [some 31]] } }

/-- A block of one port of one pin, the smallest of R9. -/
def narrow : State := { start with cfg := { cfg with pins := [1] } }

theorem cfg_wf : cfg.Wf := by decide +kernel
theorem wide_wf : wide.cfg.Wf := by decide +kernel
theorem narrow_wf : narrow.cfg.Wf := by decide +kernel

/-- Boundary operands: the last pin, an offset past the ports, a misaligned offset, each byte row in its state. -/
theorem witness_DecodeOfEncodeIsTheRow :
    [(⟨.phase0, .phase0, false⟩, Instr.pin 7 27 true), (⟨.phase1, .used, true⟩, .rdUnmapped 0x144),
      (⟨.phase0, .phase0, false⟩, .wrMisaligned 0x219 5), (⟨.phase0, .phase0, false⟩, .wrPiPul1 0xFFFFFFFF),
      (⟨.phase1, .phase0, false⟩, .aTxData 0xFF), (⟨.used, .phase0, false⟩, .aRxOversized),
      (⟨.phase0, .phase0, false⟩, .cXferReadCommand 63), (⟨.phase0, .phase1, true⟩, .cXferReadData 0),
      (⟨.phase0, .phase1, false⟩, .cXferWriteData 1), (⟨.phase0, .used, false⟩, .cXferOversized 0xFF)].map
      (fun p : Phases × Instr => p.2.wellFormed cfg && p.2.selectedIn p.1) = List.replicate 10 true := by decide +kernel

theorem witness_EncodeOfDecodeIsTheOperation :
    decode cfg ⟨.phase0, .phase0, false⟩ (.rd 4 0x140) = .ok .rdPiPul1 ∧
    decode cfg ⟨.phase0, .phase1, true⟩ (.cXfer 0x00) = .ok (.cXferReadData 0x00) ∧
    decode cfg ⟨.used, .phase0, true⟩ .aRx = .ok .aRxOversized := ⟨rfl, rfl, rfl⟩

/-- N = 14: the last port register is at 0x1F4, the first unmapped offset at 0x1F8. -/
theorem witness_UnmappedOffsetsAreTheRest :
    0x24 * 14 ≤ 0x200 ∧ decodeOffset 14 0x1F4 = .port 13 .pul1 ∧ decodeOffset 14 0x1F8 = .unmapped ∧
    decodeOffset 14 0x200 = .intCfg 0 ∧ decodeOffset 14 0x21C = .unmapped ∧ decodeOffset 14 0x218 = .intDeb ∧
    decodeOffset 14 0x1F5 = .unmapped := by decide +kernel

/-- The three clauses: nothing presented, a row, a rejection. -/
theorem witness_StepRunsTheDecodedRow :
    start.pending = [] ∧
    (∃ (s : State) (op : Op) (rest : List Op) (i : Instr), s.pending = op :: rest ∧ decode s.cfg s.phases op = .ok i) ∧
    (∃ (s : State) (op : Op) (rest : List Op) (e : DecodeError), s.pending = op :: rest ∧ decode s.cfg s.phases op = .error e) :=
  ⟨rfl, ⟨ask [.aTx 0x02] (atA .phase1 0x01), .aTx 0x02, [], .aTxData 0x02, rfl, rfl⟩,
    ⟨ask [.rd 1 0x000] start, .rd 1 0x000, [], .accessWidth 1, rfl, rfl⟩⟩

theorem witness_TableWordIsRunNext :
    decodeTableWord 0 0 = some .rst ∧ decodeTableWord 8 0xC0 = some (.cXferReadCommand 0) ∧
    decodeTableWord 32 0x10C = some .rdPhDat ∧ decodeTableWord 64 0x1_0000_0214 = some (.wrIntSta 1) := by
  decide +kernel

/-- Each of the six refusals happens. -/
theorem witness_StepRefusesExactlyTheUndefined :
    [step (ask [.rd 8 0x000] start), step (ask [.wr 2 0x210 1] start), step (ask [.pin 0 18 true] start),
      step (ask [.aRx] (atA .phase0 0x00)), step (ask [.cXfer 0x7F] (atC .phase0 0x00)),
      step (ask [.cXfer 0x00] (atC .phase1 0x01))].map refusal =
    [some (.accessWidth 8), some (.accessWidth 2), some .pinOutOfRange, some .readBeforePointer,
      some .startFlagClear, some .dataWithoutStart] := by decide +kernel

/-- Both forms of the row: the last register of the table, and the last port of a block of 14. -/
theorem witness_PortReadReturnsStoredWord :
    (8 < start.cfg.nPorts ∧ Instr.rdPiPul1.ReadsPort 8 .pul1) ∧
    (13 < wide.cfg.nPorts ∧ (Instr.rdUnmapped 0x1F4).ReadsPort 13 .pul1) :=
  ⟨⟨by decide +kernel, .inl ⟨.pi, rfl, rfl⟩⟩, by decide +kernel, .inr rfl⟩

theorem witness_GlobalReadReturnsStoredWord : ∃ s : State, s.cfg.Wf := ⟨wide, wide_wf⟩

/-- Both branches: the last mapped offset and the first beyond it. -/
theorem witness_ReadAtAnyOffset :
    ∃ s t : State, s.cfg.Wf ∧ t.cfg.Wf ∧ s.pending = [.rd 4 0x218] ∧ t.pending = [.rd 4 0x21C] :=
  ⟨ask [.rd 4 0x218] start, ask [.rd 4 0x21C] wide, cfg_wf, wide_wf, rfl, rfl⟩

/-- The three forms: a misaligned offset, an unmapped one, the row of a port that the block does not have. -/
theorem witness_UnmappedReadReturnsZero :
    (Instr.rdMisaligned 0x211 = .rdMisaligned 0x211 ∧ 0x211 % 4 ≠ 0) ∧
    (Instr.rdUnmapped 0x144 = .rdUnmapped 0x144 ∧ 0x24 * start.cfg.nPorts ≤ 0x144) ∧
    (Instr.rdPbCfg0 = Instr.rdPort .pb .cfg0 ∧ 0x24 * narrow.cfg.nPorts ≤ 0x24 * 1 + 4 * 0) := by decide +kernel

theorem witness_UnmappedWriteChangesNothing :
    (Instr.wrMisaligned 0x216 1 = .wrMisaligned 0x216 1 ∧ 0x216 % 4 ≠ 0) ∧
    (Instr.wrUnmapped 0x21C 1 = .wrUnmapped 0x21C 1 ∧ 0x24 * wide.cfg.nPorts ≤ 0x21C ∧ ¬ 0x21C ≤ 0x218) ∧
    (Instr.wrPiPul1 1 = Instr.wrPort .pi .pul1 1 ∧ 0x24 * narrow.cfg.nPorts ≤ 0x24 * 8 + 4 * 8) := by decide +kernel

/-- Both forms of the row: the last register of the table, and the last port of a block of 14. -/
theorem witness_PortWriteEffect :
    (start.cfg.Wf ∧ 8 < start.cfg.nPorts ∧ (Instr.wrPiPul1 7).WritesPort 8 .pul1 7) ∧
    (wide.cfg.Wf ∧ 13 < wide.cfg.nPorts ∧ (Instr.wrUnmapped 0x1F4 7).WritesPort 13 .pul1 7) :=
  ⟨⟨cfg_wf, by decide +kernel, .inl ⟨.pi, rfl, rfl⟩⟩, wide_wf, by decide +kernel, .inr rfl⟩

theorem witness_MaskKeepsFieldsOfExistingPins :
    ∃ p b p' b' : Nat, (1 ≤ p ∧ p ≤ 32 ∧ b < 32) ∧ 1 ≤ p' ∧ p' ≤ 32 ∧ b' < 32 := ⟨1, 0, 32, 31, by decide, by decide⟩

theorem witness_PortWordReadsBackMasked :
    start.cfg.Wf ∧ 5 < start.cfg.nPorts ∧ (Instr.wrPfCfg0 0xFFFFFFFF).WritesPort 5 .cfg0 0xFFFFFFFF ∧
    Instr.rdPfCfg0.ReadsPort 5 .cfg0 ∧
    (Instr.wrPfCfg0 0x00777777).WritesPort 5 .cfg0 (0xFFFFFFFF &&& portMask .cfg0 (start.cfg.pinCount 5)) :=
  ⟨cfg_wf, by decide +kernel, .inl ⟨.pf, rfl, rfl⟩, .inl ⟨.pf, rfl, rfl⟩, .inl ⟨.pf, by decide +kernel, rfl⟩⟩

theorem witness_GlobalWriteEffect : ∃ s : State, s.cfg.Wf := ⟨withWords [(128, 0x22222222)], cfg_wf⟩

/-- Both values of W1C_REEVAL. -/
theorem witness_StatusWriteEffect :
    ∃ s t : State, (s.cfg.Wf ∧ s.cfg.w1cReeval = false) ∧ t.cfg.Wf ∧ t.cfg.w1cReeval = true :=
  ⟨start, { start with cfg := { cfg with w1cReeval := true } }, ⟨cfg_wf, rfl⟩, by decide +kernel, rfl⟩

/-- Both clauses: a stimulus, and a write of INT_STA. -/
theorem witness_StatusBitsAreSticky :
    ∃ s t u v : State, s.cfg.Wf ∧ s.pending = [.pin 7 0 true] ∧ step s = .next t ∧
      u.cfg.Wf ∧ u.pending = [.wr 4 0x214 1] ∧ step u = .next v ∧ u.cfg.w1cReeval = false :=
  ⟨ask [.pin 7 0 true] start, _, ask [.wr 4 0x214 1] (withWords [(133, 5)]), _, cfg_wf, rfl, rfl, cfg_wf, rfl, rfl, rfl⟩

/-- A write of INT_CFG0 to low level sets the status bit of line 0. -/
theorem witness_WriteFiresLevelModesOnly :
    start.cfg.Wf ∧ start.gpio.status 0 = false ∧
    after (·.gpio.status 0) (step (ask [.wr 4 0x200 3] start)) = some true := ⟨cfg_wf, by decide +kernel⟩

theorem witness_HighLevelFiresAgainOnPortWrite :
    start.cfg.Wf ∧ start.cfg.irqLineOf 8 19 = some 31 ∧
    (withWords [(131, 0x20000000), (76, 0x80000)]).gpio.isInput 8 19 = true ∧
    (withWords [(131, 0x20000000), (76, 0x80000)]).gpio.mode 31 = 2 ∧
    (withWords [(131, 0x20000000), (76, 0x80000)]).gpio.dat 8 19 = true ∧ 19 < start.cfg.pinCount 8 ∧
    8 < start.cfg.nPorts ∧ (Instr.wrPiPul1 7).WritesPort 8 .pul1 7 :=
  ⟨cfg_wf, by decide +kernel, by decide +kernel, by decide +kernel, by decide +kernel, by decide +kernel,
    by decide +kernel, .inl ⟨.pi, rfl, rfl⟩⟩

theorem witness_AcknowledgeDropsTheLine :
    start.cfg.Wf ∧ start.cfg.w1cReeval = false ∧
    (withWords [(132, 0x80000000), (133, 0x80000001)]).gpio.word 132 &&&
      (withWords [(132, 0x80000000), (133, 0x80000001)]).gpio.word 133 &&& ~~~((1 : Word) <<< 31) = 0 :=
  ⟨cfg_wf, by decide +kernel⟩

/-- Both clauses, at the last pin of PH and one beyond. -/
theorem witness_PinStimulusEffect :
    start.cfg.Wf ∧ (7 < start.cfg.nPorts ∧ 27 < start.cfg.pinCount 7) ∧
    ¬ (7 < start.cfg.nPorts ∧ 28 < start.cfg.pinCount 7) := ⟨cfg_wf, by decide +kernel⟩

theorem witness_StimulatedOutputLineIsStale :
    start.cfg.Wf ∧ PortName.index .pf < start.cfg.nPorts ∧ 5 < start.cfg.pinCount 5 ∧
    (withWords [(45, 0x00100000)]).gpio.isOutput 5 5 = true ∧
    PortReg.pul1 ∈ [PortReg.drv0, PortReg.drv1, PortReg.pul0, PortReg.pul1] ∧ (Instr.wrPfPul1 0).WritesPort 5 .pul1 0 :=
  ⟨cfg_wf, by decide +kernel, by decide +kernel, by decide +kernel, by decide, .inl ⟨.pf, rfl, rfl⟩⟩

theorem witness_EnableMaskDoesNotGateStatus :
    wide.cfg.Wf ∧ 13 < wide.cfg.nPorts ∧ 31 < wide.cfg.pinCount 13 := ⟨wide_wf, by decide +kernel⟩

/-- Both clauses: a stimulus, and a write to a port. -/
theorem witness_DebounceValueHasNoFunction :
    start.cfg.Wf ∧ (∃ n j l, Instr.pin 8 19 true = .pin n j l ∧ n < start.cfg.nPorts ∧ j < start.cfg.pinCount n) ∧
    ∃ n k v, (Instr.wrPaDat 1).WritesPort n k v ∧ n < start.cfg.nPorts :=
  ⟨cfg_wf, ⟨8, 19, true, rfl, by decide +kernel, by decide +kernel⟩, 0, .dat, 1, .inl ⟨.pa, rfl, rfl⟩,
    by decide +kernel⟩

/-- A state with a line enabled and an output driven, about to be written. -/
def running : State := ask [.wr 4 0x0B4 0x00000000] { start with gpio := (Gpio.reset.setWord 132 1).setWord 45 1 }

theorem witness_StepKeepsGpioInvariant :
    ∃ t, running.cfg.Wf ∧ running.gpio.Inv running.cfg ∧ step running = .next t := by
  refine ⟨_, cfg_wf, ⟨?_, by decide +kernel, fun l _ => ?_⟩, rfl⟩
  · intro n hn k
    have hp : ∀ k : PortReg, k.index < 9 := index_lt
    have hn : n < 9 := hn
    have hk := hp k
    simp only [running, ask, Gpio.word_setWord, Gpio.word_reset, portIdx]
    split
    · next h =>
      have h5 : n = 5 := by omega
      have h0 : k.index = PortReg.cfg0.index := by
        have h1 := h.1
        rw [h5] at h1
        exact Nat.add_left_cancel h1
      rw [index_inj h0, h5]
      decide +kernel
    · split
      · omega
      · simp
  · simp [running, ask, Gpio.status, Gpio.word_setWord, intStaIdx]

theorem witness_StepKeepsInputLinesLow :
    ∃ t, running.cfg.Wf ∧ running.gpio.InputsLow running.cfg ∧ step running = .next t :=
  ⟨_, cfg_wf, fun n _ i _ _ => by simp [running, ask], rfl⟩

theorem witness_StepKeepsVoidsZero :
    ∃ t, running.cfg.Wf ∧ running.gpio.VoidsZero running.cfg ∧ step running = .next t := by
  refine ⟨_, cfg_wf, ⟨fun w h1 h2 => ?_, fun n i _ => by simp [running, ask]⟩, rfl⟩
  have h1 : 81 ≤ w := h1
  simp [running, ask, Gpio.word_setWord, show w ≠ 45 by omega, show w ≠ 132 by omega]

theorem witness_ParametersNeverChange : ∃ t, step running = .next t := ⟨_, rfl⟩

theorem witness_OperationTouchesItsDeviceOnly :
    ∃ t, (ask [.aTx 0x01] start).pending = [.aTx 0x01] ∧ step (ask [.aTx 0x01] start) = .next t ∧
      Device.gpio ≠ deviceOf (.aTx 0x01) := ⟨_, rfl, rfl, by decide⟩

/-- Two states that differ in SENS_A and agree on SENS_C; one operation runs and one is refused. -/
theorem witness_DeviceSeesItselfOnly :
    (start.cfg = (atA .used 0x01 0x01).cfg ∧ start.AgreeOn (deviceOf (.cXfer 0xC2)) (atA .used 0x01 0x01)) ∧
    (∃ t, step (ask [.cXfer 0xC2] start) = .next t) ∧ ∃ r, step (ask [.cXfer 0x02] start) = .refused r :=
  ⟨⟨rfl, rfl⟩, ⟨_, rfl⟩, _, rfl⟩

theorem witness_DifferentDevicesCommute :
    ∃ t, deviceOf (.pin 7 0 true) ≠ deviceOf (.aTx 0x01) ∧
      steps 2 { start with pending := [.pin 7 0 true, .aTx 0x01] } = .next t := ⟨_, by decide, rfl⟩

theorem witness_PointerByteEffect : encode (.aTxPointer 0xFF) = .aTx 0xFF ∧ start.sensA.cnt = .phase0 := ⟨rfl, rfl⟩

/-- Both branches: the pointer of CTRL, and another. -/
theorem witness_AddressedWriteEffect :
    encode (.aTxData 0x01) = .aTx 0x01 ∧ (atA .phase1 0x01).sensA.cnt = .phase1 ∧ (atA .phase1 0x01).sensA.ptr = 0x01 ∧
    (atA .phase1 0xFF).sensA.cnt = .phase1 ∧ (atA .phase1 0xFF).sensA.ptr ≠ 0x01 := by
  exact ⟨rfl, rfl, rfl, rfl, by decide⟩

theorem witness_AddressedOversizedWrite :
    encode (.aTxOversized 0x00) = .aTx 0x00 ∧ (atA .used 0x01).sensA.cnt = .used := ⟨rfl, rfl⟩

theorem witness_FirstByteReadRefused : encode .aRxFirst = .aRx ∧ start.sensA.cnt = .phase0 := ⟨rfl, rfl⟩

/-- Each pointer's clause: 0, 1, 2, and 3 beyond them. -/
theorem witness_AddressedReadEffect :
    encode .aRxData = .aRx ∧ ∀ p ∈ [0x00, 0x01, 0x02, 0x03], (atA .phase1 p).sensA.cnt = .phase1 ∧
      (atA .phase1 p).sensA.ptr = p := ⟨rfl, fun _ _ => ⟨rfl, rfl⟩⟩

theorem witness_AddressedOversizedRead : encode .aRxOversized = .aRx ∧ (atA .used 0x02).sensA.cnt = .used := ⟨rfl, rfl⟩

/-- A read of TEMPERATURE, which refreshes, and a write command, which does not. -/
theorem witness_CommandByteEffect :
    start.sensC.cnt = .phase0 ∧
    (encode (.cXferReadCommand 2) = .cXfer 0xC2 ∧ (commandFields start.cfg 0xC2).start = true ∧
      (commandFields start.cfg 0xC2).isRead = true ∧ (commandFields start.cfg 0xC2).reg = 2) ∧
    encode (.cXferWriteCommand 2) = .cXfer 0x82 ∧ (commandFields start.cfg 0x82).start = true ∧
      (commandFields start.cfg 0x82).isRead = false := by decide +kernel

theorem witness_CommandWithoutStartRefused :
    encode (.cXferStartFlagClear 0x7F) = .cXfer 0x7F ∧ start.sensC.cnt = .phase0 ∧
    (commandFields start.cfg 0x7F).start = false := by decide +kernel

theorem witness_DataWithoutStartRefused :
    encode (.cXferWriteData 0x00) = .cXfer 0x00 ∧ (atC .phase1 0x7F).sensC.cnt = .phase1 ∧
    (commandFields start.cfg (atC .phase1 0x7F).sensC.ptr).start = false := by decide +kernel

/-- Each index's clause: 0, 1, 2, and 3 beyond them. -/
theorem witness_CommandReadDataEffect :
    encode (.cXferReadData 0xAA) = .cXfer 0xAA ∧
    [0xC0, 0xC1, 0xC2, 0xC3].map (fun p => ((atC .phase1 p).sensC.cnt, (commandFields start.cfg p).start,
      (commandFields start.cfg p).isRead, (commandFields start.cfg p).reg)) =
      [(.phase1, true, true, 0), (.phase1, true, true, 1), (.phase1, true, true, 2), (.phase1, true, true, 3)] := by
  decide +kernel

/-- Both branches: index 1 and another. -/
theorem witness_CommandWriteDataEffect :
    encode (.cXferWriteData 0x01) = .cXfer 0x01 ∧
    [0x81, 0xBF].map (fun p => ((atC .phase1 p).sensC.cnt, (commandFields start.cfg p).start,
      (commandFields start.cfg p).isRead, (commandFields start.cfg p).reg)) =
      [(.phase1, true, false, 1), (.phase1, true, false, 63)] := by decide +kernel

theorem witness_CommandOversizedEffect :
    encode (.cXferOversized 0xC1) = .cXfer 0xC1 ∧ (atC .used 0xC0).sensC.cnt = .used := ⟨rfl, rfl⟩

theorem witness_DefaultLayoutOfTheCommandRows :
    Params.ref.layout = [] ∧ encode (.cXferReadCommand 63) = .cXfer 0xFF ∧ encode (.cXferWriteCommand 0) = .cXfer 0x80 ∧
    encode (.cXferStartFlagClear 0x7F) = .cXfer 0x7F := by decide +kernel

theorem witness_AddressedTransactions : (0x01 : Byte).getLsbD 0 = true ∧ (0xFE : Byte).getLsbD 0 = false := by decide

theorem witness_CommandTransactions : start.cfg.layout = [] := rfl

theorem witness_StepKeepsSensorInvariants :
    ∃ t, (ask [.cXfer 0x01] (atC .phase1 0x81)).sensA.Inv cfg.sensA ∧
      (ask [.cXfer 0x01] (atC .phase1 0x81)).sensC.Inv cfg.sensC ∧
      (ask [.cXfer 0x01] (atC .phase1 0x81)).sensC.Started cfg ∧
      step (ask [.cXfer 0x01] (atC .phase1 0x81)) = .next t :=
  ⟨_, by decide +kernel, by decide +kernel, by decide +kernel, rfl⟩

/-- CTRL changes by the data byte, and by a reset. -/
theorem witness_ControlChangesOnlyByItsWrite :
    after (·.sensA.ctrl) (step (ask [.aTx 0x01] (atA .phase1 0x01))) = some 0x01 ∧
    after (·.sensC.ctrl) (step (ask [.cXfer 0x01] (atC .phase1 0x81))) = some 0x01 ∧
    after (·.sensA.ctrl) (step (ask [.aRst] (atA .phase1 0x01 0x01))) = some 0x00 := by decide +kernel

theorem witness_AtMostOneDiagnostic : ∃ t, exec (.rdMisaligned 2) start = .next t := ⟨_, rfl⟩

end Sys2Proof.Tests
end

section
/-! What `RD` and `WR` at a port register do (40_gpio_port_bank.md R108, R109): the row is reduced to the one operation
that it stands for, the operation to the access of the word 9n + r, and the effect of a write is read off
`Gpio.writePort_spec`. -/

namespace Sys2Proof.Machine

/-- R51, R74: the offset of a port register is that of its word in the register file. -/
theorem portOffset_div_four (n : Nat) (k : PortReg) : (0x24 * n + 4 * k.index) / 4 = portIdx n k := by
  unfold portIdx
  omega

/-- R91: both forms of a port register's `RD` row stand for `RD` at the register's offset. -/
theorem encode_of_readsPort {n : Nat} {k : PortReg} {i : Instr} (h : i.ReadsPort n k) :
    encode i = .rd 4 (0x24 * n + 4 * k.index) := by
  rcases h with ⟨p, rfl, rfl⟩ | rfl
  · exact encode_rdPort p k
  · rfl

/-- R91: both forms of a port register's `WR` row stand for `WR` at the register's offset. -/
theorem encode_of_writesPort {n : Nat} {k : PortReg} {v : Word} {i : Instr} (h : i.WritesPort n k v) :
    encode i = .wr 4 (0x24 * n + 4 * k.index) v := by
  rcases h with ⟨p, rfl, rfl⟩ | rfl
  · exact encode_wrPort p k v
  · rfl

/-- R161: `RD` at a port register of the block. -/
theorem readRegister_port {s : State} {n : Nat} (hn : n < s.cfg.nPorts) (k : PortReg) :
    readRegister (0x24 * n + 4 * k.index) s = .next (s.answer (.word (s.gpio.word (portIdx n k))) []) := by
  simp only [readRegister, decodeOffset_port hn k, portOffset_div_four]

/-- R162: `WR` at a port register of the block. -/
theorem writeRegister_port {s : State} {n : Nat} (hn : n < s.cfg.nPorts) (k : PortReg) (v : Word) :
    writeRegister (0x24 * n + 4 * k.index) v s =
      .next ((s.setGpio (s.gpio.writePort s.cfg n k (portIdx n k) v)).answer .nothing []) := by
  simp only [writeRegister, decodeOffset_port hn k, portOffset_div_four]

/-- R108: every row that reads a port register answers the register's word. -/
theorem exec_of_readsPort {s : State} {n : Nat} {k : PortReg} {i : Instr} (hn : n < s.cfg.nPorts)
    (hi : i.ReadsPort n k) : exec i s = .next (s.answer (.word (s.gpio.word (portIdx n k))) []) := by
  rw [exec_eq_perform, encode_of_readsPort hi]
  exact readRegister_port hn k

/-- R109: every row that writes a port register does the one port write. -/
theorem exec_of_writesPort {s : State} {n : Nat} {k : PortReg} {v : Word} {i : Instr} (hn : n < s.cfg.nPorts)
    (hi : i.WritesPort n k v) :
    exec i s = .next ((s.setGpio (s.gpio.writePort s.cfg n k (portIdx n k) v)).answer .nothing []) := by
  rw [exec_eq_perform, encode_of_writesPort hi]
  exact writeRegister_port hn k v

/-- R21: under the ranges of R9 a port word has storage and is not INT_STA. -/
theorem portIdx_lt_intStaIdx {cfg : Params} (h : cfg.Wf) {n : Nat} (hn : n < cfg.nPorts) (k : PortReg) :
    portIdx n k < intStaIdx := by
  have hN := h.1.2
  have hk := index_lt k
  unfold portIdx intStaIdx
  omega

/-- R109: what a port write leaves of the words: the masked value at the register, every other word but INT_STA as it
was. -/
theorem Gpio.word_writePort {cfg : Params} (h : cfg.Wf) {n : Nat} (hn : n < cfg.nPorts) (k : PortReg) (v : Word)
    (g : Gpio) {w : Nat} (hw : w ≠ intStaIdx) :
    (g.writePort cfg n k (portIdx n k) v).word w =
      if w = portIdx n k then v &&& portMask k (cfg.pinCount n) else g.word w := by
  have hp := portIdx_lt_intStaIdx h hn k
  have hb : portIdx n k < 135 := by unfold intStaIdx at hp; omega
  obtain ⟨hword, -⟩ := Gpio.writePort_spec cfg h hn k v g
  simp only [hword w hw, Gpio.word_setWord, hb, and_true]

/-- Two register files that agree on every word but INT_STA, the latches and irq left aside. -/
theorem Gpio.sameButStatus_of_words {g g' : Gpio} (h : ∀ w, w ≠ intStaIdx → g'.word w = g.word w) :
    g.SameButStatus { g' with out := g.out, irq := g.irq } := ⟨h, rfl, rfl⟩

/-- R127: the output rule reads INT_STA nowhere. -/
theorem Gpio.SameButStatus.drivenLine {g g' : Gpio} (a : g.SameButStatus g') (n : Nat) {i : Nat} (hi : i < 32) :
    g'.drivenLine n i = g.drivenLine n i := by
  have ⟨_, hout, _⟩ := a
  unfold Gpio.drivenLine Gpio.isOutput Gpio.isInput Gpio.line
  rw [a.cfgField n hi, a.dat, hout]

/-- R127, R128: the lines after a port write, by the directions and data bits that it leaves. -/
theorem Gpio.line_writePort {cfg : Params} (h : cfg.Wf) {n : Nat} (hn : n < cfg.nPorts) (k : PortReg) (v : Word)
    (g : Gpio) (m j : Nat) :
    let g' := g.writePort cfg n k (portIdx n k) v
    g'.line m j =
      if m = n ∧ j < cfg.pinCount n then
        if g'.isOutput n j then g'.dat n j else if g'.isInput n j then false else g.line n j
      else g.line m j := by
  intro g'
  obtain ⟨hword, hline, -, -⟩ := Gpio.writePort_spec cfg h hn k v g
  have hs := Gpio.sameButStatus_of_words hword
  rw [hline m j]
  exact if_ctx_congr Iff.rfl
    (fun hj => (hs.drivenLine n (lt_of_lt_of_le hj.2 (pinCount_le cfg h n))).symm) (fun _ => rfl)

/-- R140, R141: the status bits after a port write, by the trigger modes, directions and data bits that it leaves. -/
theorem Gpio.status_writePort {cfg : Params} (h : cfg.Wf) {n : Nat} (hn : n < cfg.nPorts) (k : PortReg) (v : Word)
    (g : Gpio) (l : Fin 32) :
    let g' := g.writePort cfg n k (portIdx n k) v
    g'.status l = true ↔ (g.status l = true ∨ g'.portRaises cfg n l) := by
  intro g'
  obtain ⟨hword, -, -, hstatus⟩ := Gpio.writePort_spec cfg h hn k v g
  exact (hstatus l).trans (or_congr_right ((Gpio.sameButStatus_of_words hword).portRaises cfg h n l).symm)

/-- Settles O8: a port register's row is `RD` at the register's offset, which answers the stored word. -/
theorem portReadReturnsStoredWord : Obligations.PortReadReturnsStoredWord :=
  fun _ _ _ _ hn hi => exec_of_readsPort hn hi

/-- Settles O13: the row is the one port write, whose words, lines, status bits and irq the lemmas above give. -/
theorem portWriteEffect : Obligations.PortWriteEffect := by
  intro s n k v i hwf hn hi
  have hne : portIdx n k ≠ intStaIdx := Nat.ne_of_lt (portIdx_lt_intStaIdx hwf hn k)
  obtain ⟨-, -, hirq, -⟩ := Gpio.writePort_spec s.cfg hwf hn k v s.gpio
  refine ⟨_, exec_of_writesPort hn hi, ?word, ?otherWords, ?lines, ?otherLines, ?status, hirq, rfl⟩
  case word => exact (Gpio.word_writePort hwf hn k v s.gpio hne).trans (if_pos rfl)
  case otherWords => exact fun w hw hsta => (Gpio.word_writePort hwf hn k v s.gpio hsta).trans (if_neg hw)
  case lines => exact fun j hj => (Gpio.line_writePort hwf hn k v s.gpio n j).trans (if_pos ⟨rfl, hj⟩)
  case otherLines =>
    exact fun m j hmj => (Gpio.line_writePort hwf hn k v s.gpio m j).trans (if_neg (by omega))
  case status => exact Gpio.status_writePort hwf hn k v s.gpio

end Sys2Proof.Machine
end

section
/-! What `RD` at a global interrupt register does (42_gpio_irq_engine.md R145 to R148), reduced like the port registers
to the one operation that the row stands for, and the firing condition of each trigger mode (R139). -/

namespace Sys2Proof.Machine

/-- R161: `RD` at any mapped offset answers the word there and changes nothing else. -/
theorem readRegister_of_mapped {s : State} {off : Nat} (h : decodeOffset s.cfg.nPorts off ≠ .unmapped) :
    readRegister off s = .next (s.answer (.word (s.gpio.word (off / 4))) []) := by
  unfold readRegister
  split
  · next hd => exact absurd hd h
  · rfl

/-- R73, R75: words 128 to 134 are registers, for every N that leaves room for them. -/
theorem decodeOffset_globalWord_ne_unmapped {nPorts w : Nat} (h : 0x24 * nPorts ≤ 0x200) (hlo : 128 ≤ w)
    (hhi : w ≤ 134) : decodeOffset nPorts (4 * w) ≠ .unmapped := by
  obtain ⟨hcfg, hctl, hsta, hdeb⟩ := decodeOffset_global h
  by_cases hw : w < 132
  · have hoff : 4 * w = 0x200 + 4 * (w - 128) := by omega
    rw [hoff, hcfg ⟨w - 128, by omega⟩]
    nofun
  · obtain rfl | rfl | rfl : w = 132 ∨ w = 133 ∨ w = 134 := by omega
    · simp [hctl]
    · simp [hsta]
    · simp [hdeb]

/-- R145 to R148: every row that reads a global register's offset answers the register's word. -/
theorem exec_of_readsGlobal {s : State} (hwf : s.cfg.Wf) {i : Instr} {w : Nat} (hi : encode i = .rd 4 (4 * w))
    (hlo : 128 ≤ w) (hhi : w ≤ 134) : exec i s = .next (s.answer (.word (s.gpio.word w)) []) := by
  have hmapped := decodeOffset_globalWord_ne_unmapped hwf.1.2 hlo hhi
  have hdiv : 4 * w / 4 = w := Nat.mul_div_cancel_left w (by decide)
  calc exec i s = readRegister (4 * w) s := by rw [exec_eq_perform, hi]; rfl
    _ = _ := by rw [readRegister_of_mapped hmapped, hdiv]

/-- R75: the `RD` rows of the global registers, each with the index of its word. -/
def globalReadRows : List (Instr × Nat) :=
  [(.rdIntCfg0, 128), (.rdIntCfg1, 129), (.rdIntCfg2, 130), (.rdIntCfg3, 131), (.rdIntCtl, 132), (.rdIntSta, 133),
    (.rdIntDeb, 134)]

/-- R75, R91: the row of a global register stands for `RD` at the offset of its word. -/
theorem encode_of_mem_globalReadRows :
    ∀ iw ∈ globalReadRows, encode iw.1 = .rd 4 (4 * iw.2) ∧ 128 ≤ iw.2 ∧ iw.2 ≤ 134 := by
  decide

/-- Settles O9: each row is `RD` at a mapped offset, which answers the stored word and changes nothing else. -/
theorem globalReadReturnsStoredWord : Obligations.GlobalReadReturnsStoredWord := by
  intro s hwf iw hiw
  obtain ⟨hencode, hlo, hhi⟩ := encode_of_mem_globalReadRows iw hiw
  exact exec_of_readsGlobal hwf hencode hlo hhi

section fire
variable (prior new : Bool)
theorem fire_positiveEdge : fire 0#3 prior new = (!prior && new) := rfl
theorem fire_negativeEdge : fire 1#3 prior new = (prior && !new) := rfl
theorem fire_highLevel : fire 2#3 prior new = new := rfl
theorem fire_lowLevel : fire 3#3 prior new = !new := rfl
theorem fire_bothEdges : fire 4#3 prior new = (prior != new) := rfl

/-- R139: the unused modes 5, 6 and 7 never fire. -/
theorem fire_unused {m : BitVec 3} (h : 5 ≤ m.toNat) : fire m prior new = false := by
  unfold fire
  split
  case h_6 => rfl
  all_goals omega
end fire

/-- Settles O19: the table's rows are the conditions of modes 0 to 4 at the four level pairs, and false for the rest. -/
theorem fireIsTheTruthTable : Obligations.FireIsTheTruthTable := by
  have h5 (prior new) : fire 5#3 prior new = false := fire_unused prior new (by decide)
  have h6 (prior new) : fire 6#3 prior new = false := fire_unused prior new (by decide)
  have h7 (prior new) : fire 7#3 prior new = false := fire_unused prior new (by decide)
  simp [Obligations.FireIsTheTruthTable, List.range_succ, fire_positiveEdge, fire_negativeEdge, fire_highLevel,
    fire_lowLevel, fire_bothEdges, h5, h6, h7]

end Sys2Proof.Machine
end

section
/-! What `RD` does at every offset (43_gpio_controller.md R161, R163): which offsets decode to a register and which to
none (R51, R73), the row that `RD` selects as the operation itself, and the read at either kind of offset. -/

namespace Sys2Proof.Machine

/-- R74: every aligned offset of the port area is that of a port register. -/
theorem exists_portOffset {nPorts off : Nat} (halign : off % 4 = 0) (hport : off < 0x24 * nPorts) :
    ∃ n k, n < nPorts ∧ off = 0x24 * n + 4 * PortReg.index k := by
  have hr : off % 0x24 / 4 < 9 := by omega
  refine ⟨off / 0x24, PortReg.ofIndex (off % 0x24 / 4), by omega, ?_⟩
  rw [index_ofIndex hr]
  omega

/-- R51, R73: the misaligned offsets, and those outside both areas of registers, are of no register. -/
theorem decodeOffset_eq_unmapped {nPorts off : Nat}
    (h : off % 4 ≠ 0 ∨ (0x24 * nPorts ≤ off ∧ ¬ (0x200 ≤ off ∧ off ≤ 0x218))) :
    decodeOffset nPorts off = .unmapped := by
  by_cases halign : off % 4 = 0
  · have hport : ¬ off < 0x24 * nPorts := by omega
    have hne (w : Nat) (hlo : 0x200 ≤ w) (hhi : w ≤ 0x218) : off ≠ w := by omega
    simp [decodeOffset, halign, hport, hne]
  · exact if_pos halign

/-- R51, R73: the aligned offsets of the two areas are of registers, for every N that leaves room for the second. -/
theorem decodeOffset_ne_unmapped {nPorts off : Nat} (hN : 0x24 * nPorts ≤ 0x200)
    (h : off % 4 = 0 ∧ (off < 0x24 * nPorts ∨ (0x200 ≤ off ∧ off ≤ 0x218))) :
    decodeOffset nPorts off ≠ .unmapped := by
  obtain ⟨halign, hport | hglobal⟩ := h
  · obtain ⟨n, k, hn, rfl⟩ := exists_portOffset halign hport
    rw [decodeOffset_port hn k]
    nofun
  · obtain ⟨w, rfl⟩ := Nat.dvd_of_mod_eq_zero halign
    exact decodeOffset_globalWord_ne_unmapped hN (by omega) (by omega)

theorem portName_index_ofIndex {n : Nat} (h : n < 9) : (PortName.ofIndex n).index = n := by
  interval_cases n <;> rfl

/-- R91: the row that `RD off` selects stands for `RD off`. -/
theorem encode_decodeRd (off : Nat) : encode (decodeRd off) = .rd 4 off := by
  by_cases halign : off % 4 = 0
  case neg => rw [decodeRd, if_pos halign]; rfl
  by_cases hport : off < 0x24 * 9
  · obtain ⟨n, k, hn, rfl⟩ := exists_portOffset halign hport
    simp only [decodeRd, halign, ne_eq, not_true_eq_false, if_false, decodeOffset_port hn k, encode_rdPort,
      portName_index_ofIndex hn]
  by_cases hglobal : 0x200 ≤ off ∧ off ≤ 0x218
  · obtain rfl | rfl | rfl | rfl | rfl | rfl | rfl : off = 0x200 ∨ off = 0x204 ∨ off = 0x208 ∨ off = 0x20C ∨
      off = 0x210 ∨ off = 0x214 ∨ off = 0x218 := by omega
    all_goals rfl
  · have hd : decodeOffset 9 off = .unmapped := decodeOffset_eq_unmapped (.inr ⟨by omega, hglobal⟩)
    have hrow : decodeRd off = .rdUnmapped off := by
      simp only [decodeRd, halign, ne_eq, not_true_eq_false, if_false, hd]
    rw [hrow]
    rfl

/-- R161: a row that stands for `RD off` is the read at `off`. -/
theorem exec_of_encode_rd {i : Instr} {size off : Nat} (h : encode i = .rd size off) (s : State) :
    exec i s = readRegister off s := by
  rw [exec_eq_perform, h]
  rfl

/-- R161: a step that takes a 32-bit `RD off` is the read at `off`, whatever the offset. -/
theorem step_rd {s : State} {off : Nat} {rest : List Op} (h : s.pending = .rd 4 off :: rest) :
    step s = readRegister off { s with pending := rest } := by
  rw [← exec_of_encode_rd (encode_decodeRd off)]
  simp only [step, h, decode, if_true]

/-- R163: `RD` at an offset of no register answers 0 with one GuestError. -/
theorem readRegister_of_unmapped {s : State} {off : Nat} (h : decodeOffset s.cfg.nPorts off = .unmapped) :
    readRegister off s = .next (s.answer (.word 0x00000000) [.guestError off none]) := by
  simp only [readRegister, h]

/-- Settles O10: the step is the read at the offset, which decodes to a register just when it is mapped. -/
theorem readAtAnyOffset : Obligations.ReadAtAnyOffset := by
  intro s off rest hwf hpending
  rw [step_rd hpending]
  by_cases hmapped : off % 4 = 0 ∧ (off < 0x24 * s.cfg.nPorts ∨ (0x200 ≤ off ∧ off ≤ 0x218))
  · exact ⟨_, readRegister_of_mapped (decodeOffset_ne_unmapped hwf.1.2 hmapped), by rw [if_pos hmapped]⟩
  · have hrest : off % 4 ≠ 0 ∨ (0x24 * s.cfg.nPorts ≤ off ∧ ¬ (0x200 ≤ off ∧ off ≤ 0x218)) := by omega
    exact ⟨_, readRegister_of_unmapped (decodeOffset_eq_unmapped hrest), by rw [if_neg hmapped]⟩

/-- Settles O11: each of the three rows stands for `RD off`, and the offset decodes to no register of the block. -/
theorem unmappedReadReturnsZero : Obligations.UnmappedReadReturnsZero := by
  intro s off i hrow hoff
  have hencode : encode i = .rd 4 off := by
    obtain rfl | rfl | ⟨p, k, rfl, rfl⟩ := hrow
    · rfl
    · rfl
    · exact encode_rdPort p k
  exact (exec_of_encode_rd hencode s).trans (readRegister_of_unmapped (decodeOffset_eq_unmapped hoff))

end Sys2Proof.Machine
end

section
/-! What a byte to SENS_A and a byte from it do (45_sensor_addressed.md R202, R203, R206): the row is reduced to the one
operation that it stands for, and the operation to the device's answer in the place of the frame where it stands. -/

namespace Sys2Proof.Machine

/-- R201: a row that stands for `A.TX b` sends b to SENS_A. -/
theorem exec_of_encode_aTx {i : Instr} {b : Byte} (h : encode i = .aTx b) (s : State) : exec i s = sendA b s := by
  rw [exec_eq_perform, h]
  rfl

/-- R204: a row that stands for `A.RX` takes a byte from SENS_A. -/
theorem exec_of_encode_aRx {i : Instr} (h : encode i = .aRx) (s : State) : exec i s = receiveA s := by
  rw [exec_eq_perform, h]
  rfl

section device
variable {p : SensorParams} {b : Byte} {d : Sensor}

/-- R202, R184: the byte after the pointer is written under CTRL_WMASK where the pointer is 1, and rejected elsewhere. -/
theorem addressedTx_of_phase1 (h : d.cnt = .phase1) :
    addressedTx p b d =
      if d.ptr = 0x01 then ({ d with ctrl := b &&& p.ctrlWMask, cnt := .used }, [])
      else ({ d with cnt := .used }, [.writeRejected]) := by
  have hptr : d.ptr.toNat = 1 ↔ d.ptr = 0x01 := BitVec.toNat_inj (y := 0x01)
  simp only [addressedTx, h, Sensor.regWrite_spec, hptr]
  split <;> rfl

/-- R203: a byte beyond the data byte leaves the device as it was. -/
theorem addressedTx_of_used (h : d.cnt = .used) : addressedTx p b d = (d, [.oversized]) := by
  simp only [addressedTx, h]

/-- R206: a read beyond the data byte returns a drawn byte. -/
theorem addressedRx_of_used (h : d.cnt = .used) : addressedRx p d = some (d.drawByte .a [.oversized]) := by
  simp only [addressedRx, h]

end device

/-- Settles O43: the row sends the byte after the pointer, which reaches CTRL exactly where the pointer is 1. -/
theorem addressedWriteEffect : Obligations.AddressedWriteEffect := by
  intro s i b hi hcnt
  rw [exec_of_encode_aTx hi, sendA, addressedTx_of_phase1 hcnt]
  by_cases hptr : s.sensA.ptr = 0x01
  · simp only [if_pos hptr]; rfl
  · simp only [if_neg hptr]; rfl

/-- Settles O44: the row sends a byte beyond the data byte, which leaves SENS_A as it was. -/
theorem addressedOversizedWrite : Obligations.AddressedOversizedWrite := by
  intro s i b hi hcnt
  rw [exec_of_encode_aTx hi, sendA, addressedTx_of_used hcnt]
  rfl

/-- Settles O47: the row reads beyond the data byte; the byte is the device's next draw. -/
theorem addressedOversizedRead : Obligations.AddressedOversizedRead := by
  intro s i hi hcnt
  refine ⟨Config.freeByte .a s.sensA.draws, s.sensA.draws + 1, ?_⟩
  rw [exec_of_encode_aRx hi, receiveA, addressedRx_of_used hcnt]
  rfl

end Sys2Proof.Machine
end

section
/-! What a byte exchanged with SENS_C beyond the data byte of its frame does (46_sensor_command.md R222), reduced like the
bytes of SENS_A to the one operation that the row stands for and the device's answer. -/

namespace Sys2Proof.Machine

/-- R218: a row that stands for `C.XFER b` exchanges b with SENS_C. -/
theorem exec_of_encode_cXfer {i : Instr} {b : Byte} (h : encode i = .cXfer b) (s : State) :
    exec i s = exchangeC b s := by
  rw [exec_eq_perform, h]
  rfl

/-- R222: a byte beyond the data byte is answered by a drawn byte, whatever command it would be in a new frame. -/
theorem commandXfer_of_used {cfg : Params} {b : Byte} {d : Sensor} (h : d.cnt = .used) :
    commandXfer cfg b d = .ok (d.drawByte .c [.oversized]) := by
  simp only [commandXfer, h]

/-- Settles O53: the row exchanges a byte beyond the data byte; the byte returned is the device's next draw. -/
theorem commandOversizedEffect : Obligations.CommandOversizedEffect := by
  intro s i c hi hcnt
  refine ⟨Config.freeByte .c s.sensC.draws, s.sensC.draws + 1, ?_⟩
  rw [exec_of_encode_cXfer hi, exchangeC, commandXfer_of_used hcnt]
  rfl

end Sys2Proof.Machine
end

section
/-! The decoder and the encoder (30_encoding.md R73, R84, R91): the row that each offset, command byte and byte of a
frame selects, and that `decode` and `encode` undo each other on the rows that a state selects. -/

namespace Sys2Proof.Machine

section commandByte
variable (c : Byte) (r : BitVec 6) (x : BitVec 7)

/-- R84: the fields of a read command byte. -/
theorem readCommand_fields :
    (0b11#2 ++ r).getLsbD 7 = true ∧ (0b11#2 ++ r).getLsbD 6 = true ∧ (0b11#2 ++ r).extractLsb' 0 6 = r := by
  refine ⟨BitVec.getLsbD_append.trans rfl, BitVec.getLsbD_append.trans rfl, ?_⟩
  exact BitVec.extractLsb'_append_eq_right

/-- R84: the fields of a write command byte. -/
theorem writeCommand_fields :
    (0b10#2 ++ r).getLsbD 7 = true ∧ (0b10#2 ++ r).getLsbD 6 = false ∧ (0b10#2 ++ r).extractLsb' 0 6 = r := by
  refine ⟨BitVec.getLsbD_append.trans rfl, BitVec.getLsbD_append.trans rfl, ?_⟩
  exact BitVec.extractLsb'_append_eq_right

/-- R84: the fields of a byte without a start flag. -/
theorem noCommand_fields : (0b0#1 ++ x).getLsbD 7 = false ∧ (0b0#1 ++ x).extractLsb' 0 7 = x := by
  refine ⟨BitVec.getLsbD_append.trans rfl, ?_⟩
  exact BitVec.extractLsb'_append_eq_right

/-- R84: a byte is its upper two bits and its register index. -/
theorem byte_eq_upperBits_append_index {u : BitVec 2} (h7 : c.getLsbD 7 = u.getLsbD 1)
    (h6 : c.getLsbD 6 = u.getLsbD 0) : u ++ c.extractLsb' 0 6 = c := by
  refine BitVec.eq_of_getLsbD_eq fun i hi => ?_
  rw [BitVec.getLsbD_append]
  by_cases hlow : i < 6
  · simp [hlow]
  · obtain rfl | rfl : i = 6 ∨ i = 7 := by omega
    · simpa using h6.symm
    · simpa using h7.symm

/-- R84: a byte with bit 7 clear is its lower seven bits. -/
theorem byte_eq_zero_append {c : Byte} (h7 : c.getLsbD 7 = false) : 0b0#1 ++ c.extractLsb' 0 7 = c := by
  refine BitVec.eq_of_getLsbD_eq fun i hi => ?_
  rw [BitVec.getLsbD_append]
  by_cases hlow : i < 7
  · simp [hlow]
  · obtain rfl : i = 7 := by omega
    simpa using h7.symm

end commandByte

/-- R91: every offset is misaligned, a port register's of the table, a global register's, or has no row of its own. -/
theorem offset_cases (off : Nat) :
    off % 4 ≠ 0 ∨ (∃ (p : PortName) (k : PortReg), off = 0x24 * p.index + 4 * k.index) ∨
    (∃ w, 128 ≤ w ∧ w ≤ 134 ∧ off = 4 * w) ∨ (off % 4 = 0 ∧ mappedOffset off = false) := by
  by_cases halign : off % 4 = 0
  case neg => exact .inl halign
  by_cases hport : off < 0x24 * 9
  · obtain ⟨n, k, hn, rfl⟩ := exists_portOffset halign hport
    exact .inr (.inl ⟨PortName.ofIndex n, k, by rw [portName_index_ofIndex hn]⟩)
  by_cases hglobal : 0x200 ≤ off ∧ off ≤ 0x218
  · exact .inr (.inr (.inl ⟨off / 4, by omega⟩))
  · exact .inr (.inr (.inr ⟨halign, by simp [mappedOffset]; omega⟩))

theorem decodeOffset_of_not_mapped {off : Nat} (h : mappedOffset off = false) : decodeOffset 9 off = .unmapped :=
  decodeOffset_eq_unmapped (.inr (by simp [mappedOffset] at h; omega))

section rows
variable {off : Nat} (v : Word) (p : PortName) (k : PortReg)

/-- R74, R91: the offset of a port register selects its row. -/
theorem decodeRd_port : decodeRd (0x24 * p.index + 4 * k.index) = Instr.rdPort p k := by
  cases p <;> cases k <;> rfl

theorem decodeWr_port : decodeWr (0x24 * p.index + 4 * k.index) v = Instr.wrPort p k v := by
  cases p <;> cases k <;> rfl

theorem decodeRd_misaligned (h : off % 4 ≠ 0) : decodeRd off = .rdMisaligned off := if_pos h

theorem decodeWr_misaligned (h : off % 4 ≠ 0) : decodeWr off v = .wrMisaligned off v := if_pos h

theorem decodeRd_unmapped (h : off % 4 = 0) (hm : mappedOffset off = false) : decodeRd off = .rdUnmapped off := by
  simp only [decodeRd, h, decodeOffset_of_not_mapped hm, ne_eq, not_true_eq_false, if_false]

theorem decodeWr_unmapped (h : off % 4 = 0) (hm : mappedOffset off = false) :
    decodeWr off v = .wrUnmapped off v := by
  simp only [decodeWr, h, decodeOffset_of_not_mapped hm, ne_eq, not_true_eq_false, if_false]

theorem wellFormed_rdPort (cfg : Params) : (Instr.rdPort p k).wellFormed cfg = true := by
  cases p <;> cases k <;> rfl

theorem wellFormed_wrPort (cfg : Params) : (Instr.wrPort p k v).wellFormed cfg = true := by
  cases p <;> cases k <;> rfl

theorem selectedIn_rdPort (ph : Phases) : (Instr.rdPort p k).selectedIn ph = true := by
  cases p <;> cases k <;> rfl

theorem selectedIn_wrPort (ph : Phases) : (Instr.wrPort p k v).selectedIn ph = true := by
  cases p <;> cases k <;> rfl

end rows

/-- R73, R91: what a decoded row is: it stands for the operation, its operands are in range, and the state selects it.
-/
abbrev IsRowOf (cfg : Params) (ph : Phases) (op : Op) (i : Instr) : Prop :=
  encode i = op ∧ i.wellFormed cfg = true ∧ i.selectedIn ph = true

theorem isRowOf_decodeRd (cfg : Params) (ph : Phases) (off : Nat) : IsRowOf cfg ph (.rd 4 off) (decodeRd off) := by
  refine ⟨encode_decodeRd off, ?_⟩
  obtain h | ⟨p, k, rfl⟩ | ⟨w, hlo, hhi, rfl⟩ | ⟨halign, hm⟩ := offset_cases off
  · rw [decodeRd_misaligned h]; simp [Instr.wellFormed, Instr.selectedIn, h]
  · rw [decodeRd_port]; exact ⟨wellFormed_rdPort p k cfg, selectedIn_rdPort p k ph⟩
  · interval_cases w <;> exact ⟨rfl, rfl⟩
  · rw [decodeRd_unmapped halign hm]; simp [Instr.wellFormed, Instr.selectedIn, halign, hm]

theorem isRowOf_decodeWr (cfg : Params) (ph : Phases) (off : Nat) (v : Word) :
    IsRowOf cfg ph (.wr 4 off v) (decodeWr off v) := by
  obtain h | ⟨p, k, rfl⟩ | ⟨w, hlo, hhi, rfl⟩ | ⟨halign, hm⟩ := offset_cases off
  · rw [decodeWr_misaligned v h]; simp [IsRowOf, encode, Instr.wellFormed, Instr.selectedIn, h]
  · rw [decodeWr_port]; exact ⟨encode_wrPort p k v, wellFormed_wrPort v p k cfg, selectedIn_wrPort v p k ph⟩
  · interval_cases w <;> exact ⟨rfl, rfl, rfl⟩
  · rw [decodeWr_unmapped v halign hm]; simp [IsRowOf, encode, Instr.wellFormed, Instr.selectedIn, halign, hm]

/-- R84: the row of a byte exchanged with SENS_C. -/
theorem isRowOf_decodeXfer (cfg : Params) (ph : Phases) (b : Byte) : IsRowOf cfg ph (.cXfer b) (decodeXfer ph b) := by
  unfold decodeXfer
  split
  case h_1 hcnt =>
    split
    · split
      · next h7 h6 =>
        exact ⟨congrArg Op.cXfer (byte_eq_upperBits_append_index b h7 h6), rfl,
          by simp [Instr.selectedIn, hcnt]⟩
      · next h7 h6 =>
        exact ⟨congrArg Op.cXfer (byte_eq_upperBits_append_index b h7 (eq_false_of_ne_true h6)), rfl,
          by simp [Instr.selectedIn, hcnt]⟩
    · next h7 =>
      exact ⟨congrArg Op.cXfer (byte_eq_zero_append (by simpa using h7)), rfl, by simp [Instr.selectedIn, hcnt]⟩
  case h_2 => split <;> simp [IsRowOf, encode, Instr.wellFormed, Instr.selectedIn, *]
  case h_3 hcnt => simp [IsRowOf, encode, Instr.wellFormed, Instr.selectedIn, hcnt]

/-- R201: the row of a byte sent to SENS_A. -/
theorem isRowOf_decodeTx (cfg : Params) (ph : Phases) (b : Byte) : IsRowOf cfg ph (.aTx b) (decodeTx ph b) := by
  unfold decodeTx
  split <;> simp [IsRowOf, encode, Instr.wellFormed, Instr.selectedIn, *]

/-- R204: the row of a byte read from SENS_A. -/
theorem isRowOf_decodeRx (cfg : Params) (ph : Phases) : IsRowOf cfg ph .aRx (decodeRx ph) := by
  unfold decodeRx
  split <;> simp [IsRowOf, encode, Instr.wellFormed, Instr.selectedIn, *]

section accepted
variable {cfg : Params} {ph : Phases} {i : Instr}

theorem decode_rd_eq_ok {size off : Nat} : decode cfg ph (.rd size off) = .ok i ↔ size = 4 ∧ decodeRd off = i := by
  by_cases h : size = 4 <;> simp [decode, h]

theorem decode_wr_eq_ok {size off : Nat} {v : Word} :
    decode cfg ph (.wr size off v) = .ok i ↔ size = 4 ∧ decodeWr off v = i := by
  by_cases h : size = 4 <;> simp [decode, h]

theorem decode_pin_eq_ok {n j : Nat} {l : Bool} :
    decode cfg ph (.pin n j l) = .ok i ↔ (n < cfg.nPorts ∧ j < cfg.pinCount n) ∧ .pin n j l = i := by
  by_cases h : n < cfg.nPorts ∧ j < cfg.pinCount n <;> simp [decode, h]

end accepted

/-- Settles O2, by the operations that are presented: each decoder of a kind of operation answers a row of it. -/
theorem encodeOfDecodeIsTheOperation : Obligations.EncodeOfDecodeIsTheOperation := by
  intro cfg ph op i h
  cases op with
  | rd size off => obtain ⟨rfl, rfl⟩ := decode_rd_eq_ok.mp h; exact isRowOf_decodeRd cfg ph off
  | wr size off v => obtain ⟨rfl, rfl⟩ := decode_wr_eq_ok.mp h; exact isRowOf_decodeWr cfg ph off v
  | pin n j l =>
    obtain ⟨hpin, rfl⟩ := decode_pin_eq_ok.mp h
    exact ⟨rfl, by simpa [Instr.wellFormed] using hpin, rfl⟩
  | aTx b => cases h; exact isRowOf_decodeTx cfg ph b
  | aRx => cases h; exact isRowOf_decodeRx cfg ph
  | cXfer b => cases h; exact isRowOf_decodeXfer cfg ph b
  | rst | aSel | aDesel | aRst | cSel | cDesel | cRst => cases h; exact ⟨rfl, rfl, rfl⟩

/-- Settles O1, row by row: a register's row by evaluation at its offset, a row with a condition by that condition. -/
theorem decodeOfEncodeIsTheRow : Obligations.DecodeOfEncodeIsTheRow := by
  intro cfg ph i hwf hsel
  cases i with
  | rdMisaligned off => exact congrArg Except.ok (decodeRd_misaligned (by simpa [Instr.wellFormed] using hwf))
  | wrMisaligned off v => exact congrArg Except.ok (decodeWr_misaligned v (by simpa [Instr.wellFormed] using hwf))
  | rdUnmapped off =>
    simp only [Instr.wellFormed, Bool.and_eq_true, beq_iff_eq, Bool.not_eq_true'] at hwf
    exact congrArg Except.ok (decodeRd_unmapped hwf.1 hwf.2)
  | wrUnmapped off v =>
    simp only [Instr.wellFormed, Bool.and_eq_true, beq_iff_eq, Bool.not_eq_true'] at hwf
    exact congrArg Except.ok (decodeWr_unmapped v hwf.1 hwf.2)
  | pin n j l => exact if_pos (by simpa [Instr.wellFormed] using hwf)
  | aTxPointer | aTxData | aTxOversized =>
    simp only [Instr.selectedIn, beq_iff_eq] at hsel
    simp only [encode, decode, decodeTx, hsel]
  | aRxFirst | aRxData | aRxOversized =>
    simp only [Instr.selectedIn, beq_iff_eq] at hsel
    simp only [encode, decode, decodeRx, hsel]
  | cXferReadCommand r =>
    simp only [Instr.selectedIn, beq_iff_eq] at hsel
    obtain ⟨h7, h6, hr⟩ := readCommand_fields r
    simp only [encode, decode, decodeXfer, hsel, h7, h6, hr, if_true]
  | cXferWriteCommand r =>
    simp only [Instr.selectedIn, beq_iff_eq] at hsel
    obtain ⟨h7, h6, hr⟩ := writeCommand_fields r
    simp only [encode, decode, decodeXfer, hsel, h7, h6, hr, if_true, if_false, Bool.false_eq_true]
  | cXferStartFlagClear x =>
    simp only [Instr.selectedIn, beq_iff_eq] at hsel
    obtain ⟨h7, hx⟩ := noCommand_fields x
    simp only [encode, decode, decodeXfer, hsel, h7, hx, if_false, Bool.false_eq_true]
  | cXferReadData | cXferWriteData | cXferOversized =>
    simp [Instr.selectedIn] at hsel
    simp [encode, decode, decodeXfer, hsel]
  | _ => rfl

/-- Settles O3: the sample words are evaluated. -/
theorem sampleWordsDecodeToTheirRows : Obligations.SampleWordsDecodeToTheirRows := by
  unfold Obligations.SampleWordsDecodeToTheirRows
  decide

/-- Settles O4: the offsets of no register and those of one, each direction by its lemma. -/
theorem unmappedOffsetsAreTheRest : Obligations.UnmappedOffsetsAreTheRest := by
  intro nPorts off hN
  refine ⟨fun h => ?_, decodeOffset_eq_unmapped⟩
  by_contra hrest
  exact decodeOffset_ne_unmapped hN (by omega) h

end Sys2Proof.Machine
end

section
/-! The step (20_memory.md R59, R62): an operation without a row is refused, any other is performed, in the state with
it taken away; and which operations a step refuses (60_exceptions.md R242). -/

namespace Sys2Proof.Machine

/-- R91: whether an operation has a row does not hang on the place in a frame, nor does the reason why it has none. -/
theorem decode_error_of_error {cfg : Params} {ph : Phases} {op : Op} {e : DecodeError}
    (h : decode cfg ph op = .error e) (ph' : Phases) : decode cfg ph' op = .error e := by
  cases op with
  | rd | wr | pin => exact h
  | rst | aSel | aDesel | aTx | aRx | aRst | cSel | cDesel | cXfer | cRst => cases h

theorem decode_ok_of_ok {cfg : Params} {ph : Phases} {op : Op} {i : Instr} (h : decode cfg ph op = .ok i)
    (ph' : Phases) : ∃ j, decode cfg ph' op = .ok j := by
  cases hd : decode cfg ph' op with
  | ok j => exact ⟨j, rfl⟩
  | error e => rw [decode_error_of_error hd ph] at h; cases h

section step
variable {s : State} {op : Op} {rest : List Op}

theorem step_of_no_pending (h : s.pending = []) : step s = .next s := by
  simp only [step, h]

theorem step_of_decode_ok {i : Instr} (h : s.pending = op :: rest) (hd : decode s.cfg s.phases op = .ok i) :
    step s = exec i { s with pending := rest } := by
  simp only [step, h, hd]

/-- R62: an operation that has a row, in whichever place of a frame, is performed. -/
theorem step_of_row {ph : Phases} {i : Instr} (h : s.pending = op :: rest) (hd : decode s.cfg ph op = .ok i) :
    step s = perform op { s with pending := rest } := by
  obtain ⟨j, hj⟩ := decode_ok_of_ok hd s.phases
  obtain ⟨hencode, -⟩ := encodeOfDecodeIsTheOperation _ _ _ _ hj
  rw [step_of_decode_ok h hj, exec_eq_perform, hencode]

theorem step_of_decode_error {ph : Phases} {e : DecodeError} (h : s.pending = op :: rest)
    (hd : decode s.cfg ph op = .error e) : step s = .refused (Refusal.ofDecode e) := by
  simp only [step, h, decode_error_of_error hd s.phases]

/-- R18: what a step that goes on has done: waited, or performed the oldest operation. -/
theorem step_cases {t : State} (h : step s = .next t) :
    (s.pending = [] ∧ t = s) ∨
    ∃ op rest i, s.pending = op :: rest ∧ decode s.cfg s.phases op = .ok i ∧
      perform op { s with pending := rest } = .next t := by
  cases hp : s.pending with
  | nil => rw [step_of_no_pending hp] at h; cases h; exact .inl ⟨rfl, rfl⟩
  | cons op rest =>
    cases hd : decode s.cfg s.phases op with
    | ok i => exact .inr ⟨op, rest, i, rfl, hd, step_of_row hp hd ▸ h⟩
    | error e => rw [step_of_decode_error hp hd] at h; cases h

theorem step_next_of_pending {t : State} (hp : s.pending = op :: rest) (h : step s = .next t) :
    ∃ i, decode s.cfg s.phases op = .ok i ∧ perform op { s with pending := rest } = .next t := by
  obtain ⟨hnil, -⟩ | ⟨op', rest', i, hp', hd, hperform⟩ := step_cases h
  · rw [hp] at hnil; cases hnil
  · rw [hp] at hp'; cases hp'; exact ⟨i, hd, hperform⟩

end step

/-- Settles O5. -/
theorem stepRunsTheDecodedRow : Obligations.StepRunsTheDecodedRow := fun _ =>
  ⟨step_of_no_pending, fun _ _ hp => ⟨fun _ hd => step_of_decode_ok hp hd, fun _ hd => step_of_decode_error hp hd⟩⟩

/-- Log entry 2: every table word stands for an operation that has a row, whatever the parameters. -/
theorem decode_tableOp_ok (cfg : Params) (ph : Phases) (nbits w : Nat) :
    ∃ i, decode cfg ph (tableOp nbits w) = .ok i := by
  unfold tableOp
  split
  · exact ⟨_, rfl⟩
  split
  · exact ⟨_, rfl⟩
  split <;> exact ⟨_, rfl⟩

/-- Settles O6: the word's row and the row that the step decodes stand for the same operation. -/
theorem tableWordIsRunNext : Obligations.TableWordIsRunNext := by
  intro s nbits w i hrow
  have hdecode : decode Params.ref ⟨.phase0, .phase0, false⟩ (tableOp nbits w) = .ok i := by
    unfold decodeTableWord at hrow
    split at hrow <;> cases hrow
    assumption
  obtain ⟨hencode, -⟩ := encodeOfDecodeIsTheOperation _ _ _ _ hdecode
  obtain ⟨j, hj⟩ := decode_tableOp_ok s.cfg s.phases nbits w
  rw [exec_eq_perform, hencode]
  exact step_of_row (s := s.withFetchWord nbits w) rfl hj

section refused
variable {cfg : Params} {b : Byte} {d : Sensor}

/-- R204: SENS_A gives no byte just where no pointer byte has come. -/
theorem addressedRx_eq_none {p : SensorParams} : addressedRx p d = none ↔ d.cnt = .phase0 := by
  unfold addressedRx
  split <;> simp [*]

/-- R219, U28: SENS_C refuses a byte just where the command of the frame has no start flag. -/
theorem commandXfer_eq_error {e : Refusal} :
    commandXfer cfg b d = .error e ↔
      (d.cnt = .phase0 ∧ (commandFields cfg b).start = false ∧ e = .startFlagClear) ∨
      (d.cnt = .phase1 ∧ (commandFields cfg d.ptr).start = false ∧ e = .dataWithoutStart) := by
  unfold commandXfer
  split
  · next hcnt =>
    by_cases hs : (commandFields cfg b).start = true
    · simp [hcnt, hs]
    · simpa [hcnt, hs] using eq_comm
  · next hcnt =>
    by_cases hs : (commandFields cfg d.ptr).start = true
    · by_cases hr : (commandFields cfg d.ptr).isRead = true <;> simp [hcnt, hs, hr]
    · simpa [hcnt, hs] using eq_comm
  · next hcnt => simp [hcnt]

end refused

section refusedOps
variable {s : State}

/-- R72: a stimulus is refused just outside the block. -/
theorem stimulatePin_refused {n i : Nat} {l : Bool} :
    (∃ r, stimulatePin n i l s = .refused r) ↔ ¬ (n < s.cfg.nPorts ∧ i < s.cfg.pinCount n) := by
  unfold stimulatePin
  split <;> simp [*]

/-- R204: `A.RX` is refused just as the first byte of a frame. -/
theorem receiveA_refused : (∃ r, receiveA s = .refused r) ↔ s.sensA.cnt = .phase0 := by
  rw [← addressedRx_eq_none (p := s.cfg.sensA)]
  unfold receiveA
  split <;> simp [*]

/-- R219, U28: `C.XFER` is refused just where the frame's command has no start flag. -/
theorem exchangeC_refused {b : Byte} :
    (∃ r, exchangeC b s = .refused r) ↔
      (s.sensC.cnt = .phase0 ∧ (commandFields s.cfg b).start = false) ∨
      (s.sensC.cnt = .phase1 ∧ (commandFields s.cfg s.sensC.ptr).start = false) := by
  have herror : (∃ r, exchangeC b s = .refused r) ↔ ∃ e, commandXfer s.cfg b s.sensC = .error e := by
    unfold exchangeC
    split <;> simp [*]
  simp only [herror, commandXfer_eq_error, exists_or, exists_and_left, exists_eq, and_true]

theorem readRegister_not_refused {off : Nat} {r : Refusal} : readRegister off s ≠ .refused r := by
  unfold readRegister
  split <;> nofun

theorem writeRegister_not_refused {off : Nat} {v : Word} {r : Refusal} : writeRegister off v s ≠ .refused r := by
  unfold writeRegister
  split <;> nofun

end refusedOps

/-- R242, U28: the presentations to which the spec gives no meaning. -/
def Undefined (s : State) (op : Op) : Prop :=
  match op with
  | .rd size _ => size ≠ 4
  | .wr size _ _ => size ≠ 4
  | .pin n i _ => ¬ (n < s.cfg.nPorts ∧ i < s.cfg.pinCount n)
  | .aRx => s.sensA.cnt = .phase0
  | .cXfer b => (s.sensC.cnt = .phase0 ∧ (commandFields s.cfg b).start = false) ∨
      (s.sensC.cnt = .phase1 ∧ (commandFields s.cfg s.sensC.ptr).start = false)
  | .rst | .aSel | .aDesel | .aTx _ | .aRst | .cSel | .cDesel | .cRst => False

/-- R242: an operation without a row is undefined, and one with a row is refused by its own rule alone. -/
theorem step_refused_iff_undefined {s : State} {op : Op} {rest : List Op} (hp : s.pending = op :: rest) :
    (∃ r, step s = .refused r) ↔ Undefined s op := by
  cases hd : decode s.cfg s.phases op with
  | error e =>
    rw [step_of_decode_error hp hd]
    cases op with
    | rd size | wr size => by_cases h : size = 4 <;> simp_all [decode, Undefined]
    | pin n i => by_cases h : n < s.cfg.nPorts ∧ i < s.cfg.pinCount n <;> simp_all [decode, Undefined]
    | rst | aSel | aDesel | aTx | aRx | aRst | cSel | cDesel | cXfer | cRst => cases hd
  | ok i =>
    rw [step_of_row hp hd]
    cases op with
    | rd => simp [perform, Undefined, readRegister_not_refused, (decode_rd_eq_ok.mp hd).1]
    | wr => simp [perform, Undefined, writeRegister_not_refused, (decode_wr_eq_ok.mp hd).1]
    | pin => exact stimulatePin_refused
    | aRx => exact receiveA_refused
    | cXfer => exact exchangeC_refused
    | rst | aSel | aDesel | aTx | aRst | cSel | cDesel | cRst => exact ⟨nofun, nofun⟩

/-- Settles O7: with nothing presented the block waits; a presented operation is refused where it is undefined. -/
theorem stepRefusesExactlyTheUndefined : Obligations.StepRefusesExactlyTheUndefined := by
  intro s
  cases hp : s.pending with
  | nil => simp [step_of_no_pending hp]
  | cons op rest =>
    rw [step_refused_iff_undefined hp]
    cases op <;> simp [Undefined, -Bool.exists_bool]

/-- Settles O36: an operation changes no parameter (`perform_frame`), and waiting changes nothing. -/
theorem parametersNeverChange : Obligations.ParametersNeverChange := by
  intro s t h
  obtain ⟨-, rfl⟩ | ⟨op, rest, i, -, -, hperform⟩ := step_cases h
  · rfl
  · exact (perform_frame hperform).2

end Sys2Proof.Machine
end

section
/-! The three devices (00_scope.md R1, R47): an operation reads the parameters and its own device and writes its own
device and the answer. That one fact gives the frame of an operation, its locality, and that operations on different
devices commute (20_memory.md R63). -/

namespace Sys2Proof.Machine

/-- R1: the state with one device, and the answer, taken from another state. -/
def State.put (d : Device) (s t : State) : State :=
  match d with
  | .gpio => { s with gpio := t.gpio, reply := t.reply }
  | .sensA => { s with sensA := t.sensA, reply := t.reply }
  | .sensC => { s with sensC := t.sensC, reply := t.reply }

section put
variable (d : Device) (s t : State)

theorem State.put_reply : (s.put d t).reply = t.reply := by cases d <;> rfl

/-- R1: the device that was put is that of the other state, the two other devices are as they were. -/
theorem State.agreeOn_put_same : (s.put d t).AgreeOn d t := by cases d <;> rfl

theorem State.agreeOn_put_of_ne {d d' : Device} (h : d' ≠ d) : (s.put d t).AgreeOn d' s := by
  cases d <;> cases d' <;> simp_all [State.put]

theorem State.agreeOn_refl : s.AgreeOn d s := by cases d <;> rfl

theorem State.agreeOn_pending (ops : List Op) : State.AgreeOn d { s with pending := ops } s := by cases d <;> rfl

end put

theorem State.AgreeOn.symm {d : Device} {s t : State} (h : s.AgreeOn d t) : t.AgreeOn d s := by
  cases d <;> exact Eq.symm h

theorem State.AgreeOn.trans {d : Device} {s t u : State} (h : s.AgreeOn d t) (h' : t.AgreeOn d u) : s.AgreeOn d u := by
  cases d <;> exact Eq.trans h h'

/-- The outcome of an operation on one device, carried over to a state that holds the same device. -/
def putResult (d : Device) (s : State) (r : Result) : Result :=
  match r with
  | .next t => .next (s.put d t)
  | .fault e => .fault e
  | .refused e => .refused e

/-- R1: in two states with the same parameters and the same device, an operation is refused for the same reason or
does the same to the device and answers the same; nothing else changes. -/
theorem perform_local (op : Op) {s s' : State} (hcfg : s.cfg = s'.cfg) (hdev : s.AgreeOn (deviceOf op) s') :
    perform op s' = putResult (deviceOf op) s' (perform op s) := by
  cases s; cases s'; cases hcfg
  cases op with
  | rd => cases hdev; simp only [perform, readRegister]; split <;> rfl
  | wr => cases hdev; simp only [perform, writeRegister]; split <;> rfl
  | pin => cases hdev; simp only [perform, stimulatePin]; split <;> rfl
  | aRx => cases hdev; simp only [perform, receiveA]; split <;> rfl
  | cXfer => cases hdev; simp only [perform, exchangeC]; split <;> rfl
  | rst | aSel | aDesel | aTx | aRst | cSel | cDesel | cRst => cases hdev; rfl

/-- R1, R47: an operation leaves the two devices that it is not presented to as they were. -/
theorem agreeOn_of_perform {op : Op} {s t : State} (h : perform op s = .next t) {d : Device} (hne : d ≠ deviceOf op) :
    t.AgreeOn d s := by
  have hput : perform op s = putResult (deviceOf op) s (perform op s) :=
    perform_local op rfl (State.agreeOn_refl _ s)
  rw [h] at hput
  rw [Host.Outcome.next.inj hput]
  exact State.agreeOn_put_of_ne s t hne

/-- Settles O37. -/
theorem operationTouchesItsDeviceOnly : Obligations.OperationTouchesItsDeviceOnly := by
  intro s t op rest d hp h hne
  obtain ⟨i, -, hperform⟩ := step_next_of_pending hp h
  exact (agreeOn_of_perform hperform hne).trans (State.agreeOn_pending d s rest)

/-- Settles O38: both steps have a row or neither, and two performances of one operation differ by `putResult` alone.
-/
theorem deviceSeesItselfOnly : Obligations.DeviceSeesItselfOnly := by
  intro s s' op rest rest' hcfg hdev hp hp'
  cases hd : decode s.cfg s.phases op with
  | error e =>
    rw [step_of_decode_error hp hd, step_of_decode_error hp' (hcfg ▸ hd)]
    exact ⟨nofun, fun _ hr => hr⟩
  | ok i =>
    have hlocal : step s' = putResult (deviceOf op) { s' with pending := rest' } (step s) := by
      rw [step_of_row hp hd, step_of_row hp' (hcfg ▸ hd)]
      exact perform_local op hcfg (((State.agreeOn_pending _ s rest).trans hdev).trans
        (State.agreeOn_pending _ s' rest').symm)
    refine ⟨fun t ht => ?_, fun r hr => ?_⟩
    · rw [ht] at hlocal
      exact ⟨_, hlocal, (State.agreeOn_put_same _ _ _).symm, (State.put_reply _ _ _).symm⟩
    · rw [hr] at hlocal
      exact hlocal

/-- R62: a step that goes on is the first of any longer run. -/
theorem steps_succ {s t : State} (h : step s = .next t) (k : Nat) : steps (k + 1) s = steps k t := by
  simp only [steps, h]

/-- R62: what a run that goes on has done first. -/
theorem steps_succ_eq_next {s t : State} {op : Op} {rest : List Op} {k : Nat} (hp : s.pending = op :: rest)
    (h : steps (k + 1) s = .next t) :
    ∃ u i, decode s.cfg s.phases op = .ok i ∧ perform op { s with pending := rest } = .next u ∧
      steps k u = .next t := by
  unfold steps at h
  split at h
  · next u hu =>
    obtain ⟨i, hd, hperform⟩ := step_next_of_pending hp hu
    exact ⟨u, i, hd, hperform, h⟩
  · cases h
  · cases h

/-- R63: an operation that goes on does so in every state that holds the same parameters and the same device, and
leaves the device the same. -/
theorem perform_next_of_agreeOn {op : Op} {s s' t : State} (hcfg : s.cfg = s'.cfg)
    (hdev : s.AgreeOn (deviceOf op) s') (h : perform op s = .next t) :
    ∃ t', perform op s' = .next t' ∧ t'.AgreeOn (deviceOf op) t := by
  have hlocal := perform_local op hcfg hdev
  rw [h] at hlocal
  exact ⟨_, hlocal, State.agreeOn_put_same _ _ _⟩

/-- The two states hold the same parameters and the same devices: they differ at most in the answer and in what is
still to be done. -/
def State.SameBlock (s t : State) : Prop := s.cfg = t.cfg ∧ ∀ d, s.AgreeOn d t

theorem State.sameBlock_pending (s : State) (ops : List Op) : State.SameBlock { s with pending := ops } s :=
  ⟨rfl, fun d => State.agreeOn_pending d s ops⟩

theorem State.SameBlock.symm {s t : State} (h : s.SameBlock t) : t.SameBlock s := ⟨h.1.symm, fun d => (h.2 d).symm⟩

theorem State.SameBlock.trans {s t u : State} (h : s.SameBlock t) (h' : t.SameBlock u) : s.SameBlock u :=
  ⟨h.1.trans h'.1, fun d => (h.2 d).trans (h'.2 d)⟩

/-- R63: in the other order each of two operations on different devices finds its own device as before, since the
other one leaves that device alone, so it leaves the device as before. -/
theorem perform_swap {a b : Op} (hne : deviceOf a ≠ deviceOf b) {s s₁ s₁' s' t : State}
    (ha : perform a s = .next s₁) (h₁ : s₁'.SameBlock s₁) (hb : perform b s₁' = .next t) (hs : s'.SameBlock s) :
    ∃ u₁, perform b s' = .next u₁ ∧
      ∀ u₁', u₁'.SameBlock u₁ → ∃ u, perform a u₁' = .next u ∧ u.SameBlock t := by
  have hcfg₁ : s₁'.cfg = s'.cfg := (h₁.1.trans (perform_frame ha).2).trans hs.1.symm
  have hbefore : s₁'.AgreeOn (deviceOf b) s' :=
    ((h₁.2 _).trans (agreeOn_of_perform ha hne.symm)).trans (hs.2 _).symm
  obtain ⟨u₁, hb', hbu⟩ := perform_next_of_agreeOn hcfg₁ hbefore hb
  refine ⟨u₁, hb', fun u₁' hu => ?_⟩
  have hcfgU : u₁'.cfg = s.cfg := (hu.1.trans (perform_frame hb').2).trans hs.1
  have hafter : s.AgreeOn (deviceOf a) u₁' :=
    (((hu.2 _).trans (agreeOn_of_perform hb' hne)).trans (hs.2 _)).symm
  obtain ⟨u, ha', hau⟩ := perform_next_of_agreeOn hcfgU.symm hafter ha
  have hcfg : u.cfg = t.cfg :=
    calc u.cfg = u₁'.cfg := (perform_frame ha').2
      _ = s.cfg := hcfgU
      _ = s'.cfg := hs.1.symm
      _ = s₁'.cfg := hcfg₁.symm
      _ = t.cfg := (perform_frame hb).2.symm
  refine ⟨u, ha', hcfg, fun d => ?_⟩
  by_cases hda : d = deviceOf a
  · subst hda
    exact (hau.trans (h₁.2 _).symm).trans (agreeOn_of_perform hb hne).symm
  · have hu₁ : u.AgreeOn d u₁ := (agreeOn_of_perform ha' hda).trans (hu.2 d)
    by_cases hdb : d = deviceOf b
    · subst hdb
      exact hu₁.trans hbu
    · have hs₁ : u₁.AgreeOn d s := (agreeOn_of_perform hb' hdb).trans (hs.2 d)
      have ht : t.AgreeOn d s := ((agreeOn_of_perform hb hdb).trans (h₁.2 d)).trans (agreeOn_of_perform ha hda)
      exact (hu₁.trans hs₁).trans ht.symm

/-- Settles O39: the run is two performances, which `perform_swap` gives in the other order. -/
theorem differentDevicesCommute : Obligations.DifferentDevicesCommute := by
  intro s t a b hne hrun
  obtain ⟨s₁, i, hda, ha, hrun⟩ := steps_succ_eq_next (s := { s with pending := [a, b] }) rfl hrun
  obtain ⟨hpending, hcfg⟩ := perform_frame ha
  obtain ⟨s₂, j, hdb, hb, hrun⟩ := steps_succ_eq_next hpending hrun
  cases hrun
  have hs : State.SameBlock { s with pending := [a] } { s with pending := [b] } :=
    (State.sameBlock_pending s [a]).trans (State.sameBlock_pending s [b]).symm
  obtain ⟨u₁, hb', hswap⟩ := perform_swap hne ha (State.sameBlock_pending s₁ []) hb hs
  obtain ⟨hpendingU, hcfgU⟩ := perform_frame hb'
  obtain ⟨u, ha', hcfg', hdevices⟩ := hswap _ (State.sameBlock_pending u₁ [])
  refine ⟨u, ?_, hcfg', hdevices .gpio, hdevices .sensA, hdevices .sensC⟩
  have hstep : step { s with pending := [b, a] } = .next u₁ :=
    (step_of_row (s := { s with pending := [b, a] }) rfl (hcfg ▸ hdb)).trans hb'
  calc steps 2 { s with pending := [b, a] } = steps 1 u₁ := steps_succ hstep 1
    _ = steps 0 u := steps_succ ((step_of_row hpendingU (hcfgU ▸ hda)).trans ha') 0
    _ = .next u := rfl

/-- R237 to R243: each operation raises its one diagnostic or none. -/
theorem perform_diags_length_le {op : Op} {s t : State} (h : perform op s = .next t) : t.reply.diags.length ≤ 1 := by
  cases op with
  | rd _ off => obtain ⟨_, _, rfl, hlen⟩ := readRegister_frame h; exact hlen
  | wr _ off v =>
    obtain ⟨_, _, _, _, rfl⟩ | ⟨_, _, _, rfl⟩ | ⟨_, rfl⟩ | rfl := writeRegister_cases h
    all_goals simp
  | pin => simp only [perform, stimulatePin] at h; split at h <;> cases h; exact Nat.zero_le 1
  | aTx b => cases h; exact (addressedTx_frame s.cfg.sensA b s.sensA).2.2.2
  | aRx =>
    simp only [perform, receiveA] at h
    split at h <;> cases h
    next hr => obtain ⟨-, -, -, -, hlen⟩ := addressedRx_frame hr; exact hlen
  | cXfer b =>
    simp only [perform, exchangeC] at h
    split at h <;> cases h
    next hr => obtain ⟨-, -, hlen, -⟩ := commandXfer_frame hr; exact hlen
  | rst | aSel | aDesel | aRst | cSel | cDesel | cRst => cases h; exact Nat.zero_le 1

/-- Settles O60: a row raises what its operation raises. -/
theorem atMostOneDiagnostic : Obligations.AtMostOneDiagnostic :=
  fun i s _ h => perform_diags_length_le (exec_eq_perform i s ▸ h)

end Sys2Proof.Machine
end

section
/-! The byte operations of the sensors, by the place of the byte in its frame (45_sensor_addressed.md R201 to R205;
46_sensor_command.md R218 to R221), and the resets and frame starts (44_sensor_common.md R188 to R191). -/

namespace Sys2Proof.Machine

section addressed
variable {p : SensorParams} {b : Byte} {d : Sensor}

/-- R201: the first byte is the pointer. -/
theorem addressedTx_of_phase0 (h : d.cnt = .phase0) :
    addressedTx p b d = ({ d with ptr := b, cnt := .phase1 }, []) := by
  simp only [addressedTx, h]

/-- R205: the device whose register a data read returns: TEMPERATURE is refreshed first where the pointer names it. -/
def Sensor.sampled (p : SensorParams) (d : Sensor) : Sensor := if d.ptr.toNat = 2 then d.refresh .a p else d

/-- R205, R186: sampling rewrites TEMPERATURE alone, and only where the pointer names it. -/
theorem Sensor.sampled_spec (p : SensorParams) (d : Sensor) :
    d.sampled p = { d with temp := (d.sampled p).temp, draws := (d.sampled p).draws } ∧
    (d.ptr.toNat = 2 → if d.ctrl.getLsbD 0 then (d.sampled p).temp ∈ p.measSet else (d.sampled p).temp = 0xFF) ∧
    (d.ptr.toNat ≠ 2 → (d.sampled p).temp = d.temp) := by
  unfold Sensor.sampled
  obtain ⟨hframe, htemp⟩ := d.refresh_spec .a p
  split
  · next hptr => exact ⟨hframe, fun _ => htemp, fun hne => absurd hptr hne⟩
  · next hptr => exact ⟨rfl, fun h => absurd h hptr, fun _ => rfl⟩

/-- R205: the byte after the pointer is read from the sampled device. -/
theorem addressedRx_of_phase1 (h : d.cnt = .phase1) :
    addressedRx p d =
      some { byte := ((d.sampled p).regRead .a d.ptr.toNat).byte
             diags := ((d.sampled p).regRead .a d.ptr.toNat).diags
             dev := { ((d.sampled p).regRead .a d.ptr.toNat).dev with cnt := .used } } := by
  simp only [addressedRx, h, Sensor.sampled]

/-- R204: before the pointer there is no byte to read. -/
theorem addressedRx_of_phase0 (h : d.cnt = .phase0) : addressedRx p d = none := by
  simp only [addressedRx, h]

end addressed

section command
variable {cfg : Params} {b : Byte} {d : Sensor}

/-- R218: the device that a command byte leaves, but for the byte that it draws. -/
def Sensor.commanded (cfg : Params) (b : Byte) (d : Sensor) : Sensor :=
  if (commandFields cfg b).isRead ∧ (commandFields cfg b).reg = 2 then Sensor.refresh .c cfg.sensC { d with ptr := b }
  else { d with ptr := b }

/-- R218, R186: a command byte rewrites TEMPERATURE alone of the registers, and only where it reads it. -/
theorem Sensor.commanded_spec (cfg : Params) (b : Byte) (d : Sensor) :
    d.commanded cfg b =
      { d with ptr := b, temp := (d.commanded cfg b).temp, draws := (d.commanded cfg b).draws } ∧
    if (commandFields cfg b).isRead = true ∧ (commandFields cfg b).reg = 2 then
      if d.ctrl.getLsbD 0 then (d.commanded cfg b).temp ∈ cfg.sensC.measSet else (d.commanded cfg b).temp = 0xFF
    else (d.commanded cfg b).temp = d.temp := by
  unfold Sensor.commanded
  obtain ⟨hframe, htemp⟩ := Sensor.refresh_spec .c cfg.sensC { d with ptr := b }
  by_cases hread : (commandFields cfg b).isRead = true ∧ (commandFields cfg b).reg = 2
  · simp only [if_pos hread]; exact ⟨hframe, htemp⟩
  · simp only [if_neg hread]; trivial

/-- R218, R219: a command byte. -/
theorem commandXfer_of_phase0 (h : d.cnt = .phase0) :
    commandXfer cfg b d =
      if (commandFields cfg b).start then .ok (Sensor.drawByte .c { d.commanded cfg b with cnt := .phase1 } [])
      else .error .startFlagClear := by
  unfold commandXfer
  split
  · rfl
  all_goals simp_all

/-- R220: the data byte of a read. -/
theorem commandXfer_of_read (h : d.cnt = .phase1) (hs : (commandFields cfg d.ptr).start = true)
    (hr : (commandFields cfg d.ptr).isRead = true) :
    commandXfer cfg b d =
      .ok { byte := (d.regRead .c (commandFields cfg d.ptr).reg).byte
            diags := (d.regRead .c (commandFields cfg d.ptr).reg).diags
            dev := { (d.regRead .c (commandFields cfg d.ptr).reg).dev with cnt := .used } } := by
  simp only [commandXfer, h, hs, hr, if_true]

/-- R221: the data byte of a write. -/
theorem commandXfer_of_write (h : d.cnt = .phase1) (hs : (commandFields cfg d.ptr).start = true)
    (hr : (commandFields cfg d.ptr).isRead = false) :
    commandXfer cfg b d =
      .ok (if (commandFields cfg d.ptr).reg = 1 then
          Sensor.drawByte .c { d with ctrl := b &&& cfg.sensC.ctrlWMask, cnt := .used } []
        else Sensor.drawByte .c { d with cnt := .used } [.writeRejected]) := by
  simp only [commandXfer, h, hs, hr, if_true, Bool.false_eq_true, if_false, Sensor.regWrite_spec]
  split <;> rfl

end command

section layout
variable {cfg : Params} (h : cfg.layout = [])
include h

/-- R13: with no byte listed the layout is the default one. -/
theorem commandFields_of_default (c : Byte) : commandFields cfg c = defaultCommand c := by
  simp only [commandFields, h, List.lookup_nil, Option.getD_none]

theorem commandFields_readCommand (r : BitVec 6) :
    commandFields cfg (0b11#2 ++ r) = { start := true, isRead := true, reg := r.toNat } := by
  obtain ⟨h7, h6, hr⟩ := readCommand_fields r
  rw [commandFields_of_default h, defaultCommand, h7, h6, hr]

theorem commandFields_writeCommand (r : BitVec 6) :
    commandFields cfg (0b10#2 ++ r) = { start := true, isRead := false, reg := r.toNat } := by
  obtain ⟨h7, h6, hr⟩ := writeCommand_fields r
  rw [commandFields_of_default h, defaultCommand, h7, h6, hr]

theorem commandFields_noCommand (x : BitVec 7) : (commandFields cfg (0b0#1 ++ x)).start = false := by
  obtain ⟨h7, -⟩ := noCommand_fields x
  rw [commandFields_of_default h, defaultCommand, h7]

end layout

/-- Settles O54: the command byte of each row has the row's fields (R84). -/
theorem defaultLayoutOfTheCommandRows : Obligations.DefaultLayoutOfTheCommandRows := by
  intro cfg hlayout i c hencode
  refine ⟨?_, ?_, ?_⟩
  · rintro r rfl; cases hencode; exact commandFields_readCommand hlayout r
  · rintro r rfl; cases hencode; exact commandFields_writeCommand hlayout r
  · rintro x rfl; cases hencode; exact commandFields_noCommand hlayout x

/-- Settles O31. -/
theorem sensorsStartDisabled : Obligations.SensorsStartDisabled := ⟨⟨rfl, rfl, rfl, rfl⟩, ⟨rfl, rfl, rfl, rfl⟩⟩

/-- Settles O40. -/
theorem sensorResetEffect : Obligations.SensorResetEffect := fun _ =>
  ⟨⟨_, rfl, rfl, rfl, rfl, rfl, rfl⟩, ⟨_, rfl, rfl, rfl, rfl, rfl, rfl⟩⟩

/-- Settles O41. -/
theorem framingEffect : Obligations.FramingEffect := fun _ => ⟨rfl, rfl, rfl, rfl⟩

/-- Settles O42: the row sends the first byte of a frame. -/
theorem pointerByteEffect : Obligations.PointerByteEffect := by
  intro s i b hi hcnt
  rw [exec_of_encode_aTx hi, sendA, addressedTx_of_phase0 hcnt]
  rfl

/-- Settles O45: the row reads before the pointer. -/
theorem firstByteReadRefused : Obligations.FirstByteReadRefused := by
  intro s i hi hcnt
  rw [exec_of_encode_aRx hi, receiveA, addressedRx_of_phase0 hcnt]

theorem toNat_eq_of_byte_eq {b : Byte} {k : Nat} (h : b = BitVec.ofNat 8 k) (hk : k < 256) : b.toNat = k := by
  rw [h, BitVec.toNat_ofNat]
  exact Nat.mod_eq_of_lt hk

/-- R205: what `A.RX` does after the pointer. -/
theorem receiveA_of_phase1 {s : State} (h : s.sensA.cnt = .phase1) :
    receiveA s = .next
      ((s.setSensA { ((s.sensA.sampled s.cfg.sensA).regRead .a s.sensA.ptr.toNat).dev with cnt := .used }).answer
        (.byte ((s.sensA.sampled s.cfg.sensA).regRead .a s.sensA.ptr.toNat).byte)
        ((s.sensA.sampled s.cfg.sensA).regRead .a s.sensA.ptr.toNat).diags) := by
  simp only [receiveA, addressedRx_of_phase1 h]

/-- Settles O46: the byte is the register of the sampled device, and neither the sampling nor the read changes more.
-/
theorem addressedReadEffect : Obligations.AddressedReadEffect := by
  intro s i hi hcnt
  obtain ⟨hsampled, hnamed, hother⟩ := s.sensA.sampled_spec s.cfg.sensA
  obtain ⟨hdev, hdiags, hid, hctrl, htemp⟩ := (s.sensA.sampled s.cfg.sensA).regRead_spec .a s.sensA.ptr.toNat
  have ht : (((s.sensA.sampled s.cfg.sensA).regRead .a s.sensA.ptr.toNat).dev).temp =
      (s.sensA.sampled s.cfg.sensA).temp := by rw [hdev]
  have hptr : s.sensA.ptr.toNat = 2 ↔ s.sensA.ptr = 0x02 := BitVec.toNat_inj (y := 0x02)
  refine ⟨_, ((s.sensA.sampled s.cfg.sensA).regRead .a s.sensA.ptr.toNat).byte,
    (exec_of_encode_aRx hi s).trans (receiveA_of_phase1 hcnt), ?_, ?_, ?_, ?_, ?_⟩
  · simp only [State.answer, State.setSensA, hdiags]
    rw [hdev, hsampled]
  · exact fun h => (hid (toNat_eq_of_byte_eq h (by decide))).trans (by rw [hsampled])
  · exact fun h => (hctrl (toNat_eq_of_byte_eq h (by decide))).trans (by rw [hsampled])
  · intro h
    rw [htemp (hptr.mpr h)]
    exact ⟨ht.symm, hnamed (hptr.mpr h)⟩
  · exact fun h => ht.trans (hother (mt hptr.mp h))

/-- Settles O48: the byte starts a transaction (`Sensor.commanded_spec`); the byte returned is the device's next draw.
-/
theorem commandByteEffect : Obligations.CommandByteEffect := by
  intro s i c hi hcnt hstart
  obtain ⟨hframe, htemp⟩ := s.sensC.commanded_spec s.cfg c
  have hexec : exec i s = .next
      ((s.setSensC (Sensor.drawByte .c { s.sensC.commanded s.cfg c with cnt := .phase1 } []).dev).answer
        (.byte (Config.freeByte .c (s.sensC.commanded s.cfg c).draws)) []) := by
    rw [exec_of_encode_cXfer hi, exchangeC, commandXfer_of_phase0 hcnt, if_pos hstart]
    rfl
  refine ⟨_, Config.freeByte .c (s.sensC.commanded s.cfg c).draws, hexec, ?_, htemp⟩
  simp only [State.answer, State.setSensC, Sensor.drawByte]
  rw [hframe]

/-- Settles O49. -/
theorem commandWithoutStartRefused : Obligations.CommandWithoutStartRefused := by
  intro s i c hi hcnt hstart
  have herror := (commandXfer_eq_error (b := c)).mpr (.inl ⟨hcnt, hstart, rfl⟩)
  rw [exec_of_encode_cXfer hi, exchangeC, herror]

/-- Settles O50. -/
theorem dataWithoutStartRefused : Obligations.DataWithoutStartRefused := by
  intro s i d hi hcnt hstart
  have herror := (commandXfer_eq_error (b := d)).mpr (.inr ⟨hcnt, hstart, rfl⟩)
  rw [exec_of_encode_cXfer hi, exchangeC, herror]

/-- Settles O51: the byte returned is the register that the command names, read without a refresh. -/
theorem commandReadDataEffect : Obligations.CommandReadDataEffect := by
  intro s i d hi hcnt hstart hread
  obtain ⟨hdev, hdiags, hid, hctrl, htemp⟩ := s.sensC.regRead_spec .c (commandFields s.cfg s.sensC.ptr).reg
  refine ⟨_, (s.sensC.regRead .c (commandFields s.cfg s.sensC.ptr).reg).dev.draws, ?_, hid, hctrl, htemp⟩
  rw [exec_of_encode_cXfer hi, exchangeC, commandXfer_of_read hcnt hstart hread]
  simp only [State.answer, State.setSensC, hdiags]
  rw [hdev]

/-- Settles O52: index 1 takes the byte, any other rejects it; the byte returned is the device's next draw. -/
theorem commandWriteDataEffect : Obligations.CommandWriteDataEffect := by
  intro s i d hi hcnt hstart hwrite
  refine ⟨Config.freeByte .c s.sensC.draws, s.sensC.draws + 1, ?_⟩
  rw [exec_of_encode_cXfer hi, exchangeC, commandXfer_of_write hcnt hstart hwrite]
  by_cases hreg : (commandFields s.cfg s.sensC.ptr).reg = 1
  · simp only [if_pos hreg]; rfl
  · simp only [if_neg hreg]; rfl

end Sys2Proof.Machine
end

section
/-! What every step keeps of the sensors (44_sensor_common.md R182, R183, R192; 46_sensor_command.md R225): the ways
in which an operation can change a sensor, said once, and the invariants read off them. -/

namespace Sys2Proof.Machine

section changes
variable {op : Op} {s t : State}

/-- R1, R188 to R206: the ways in which an operation can leave SENS_A. -/
theorem perform_sensA_cases (h : perform op s = .next t) :
    t.sensA = s.sensA ∨ (op = .aSel ∧ t.sensA = s.sensA.frameStart) ∨
    (∃ b, op = .aTx b ∧ t.sensA = (addressedTx s.cfg.sensA b s.sensA).1) ∨
    (∃ r, op = .aRx ∧ addressedRx s.cfg.sensA s.sensA = some r ∧ t.sensA = r.dev) ∨
    (op = .aRst ∧ t.sensA = Sensor.reset .a s.cfg.sensA s.sensA) := by
  by_cases hdev : Device.sensA = deviceOf op
  case neg => exact .inl (agreeOn_of_perform h hdev)
  cases op with
  | aSel => cases h; exact .inr (.inl ⟨rfl, rfl⟩)
  | aDesel => cases h; exact .inl rfl
  | aTx b => cases h; exact .inr (.inr (.inl ⟨b, rfl, rfl⟩))
  | aRx =>
    simp only [perform, receiveA] at h
    split at h <;> cases h
    next r hr => exact .inr (.inr (.inr (.inl ⟨r, rfl, hr, rfl⟩)))
  | aRst => cases h; exact .inr (.inr (.inr (.inr ⟨rfl, rfl⟩)))
  | rd | wr | pin | rst | cSel | cDesel | cXfer | cRst => cases hdev

/-- R1, R188 to R192, R218 to R222: the ways in which an operation can leave SENS_C. -/
theorem perform_sensC_cases (h : perform op s = .next t) :
    t.sensC = s.sensC ∨ (op = .cSel ∧ t.sensC = s.sensC.frameStart) ∨
    (∃ b r, op = .cXfer b ∧ commandXfer s.cfg b s.sensC = .ok r ∧ t.sensC = r.dev) ∨
    (op = .cRst ∧ t.sensC = Sensor.reset .c s.cfg.sensC s.sensC) := by
  by_cases hdev : Device.sensC = deviceOf op
  case neg => exact .inl (agreeOn_of_perform h hdev)
  cases op with
  | cSel => cases h; exact .inr (.inl ⟨rfl, rfl⟩)
  | cDesel => cases h; exact .inl rfl
  | cXfer b =>
    simp only [perform, exchangeC] at h
    split at h <;> cases h
    next r hr => exact .inr (.inr (.inl ⟨b, r, rfl, hr, rfl⟩))
  | cRst => cases h; exact .inr (.inr (.inr ⟨rfl, rfl⟩))
  | rd | wr | pin | rst | aSel | aDesel | aTx | aRx | aRst => cases hdev

end changes

/-- R201 to R203: after a byte to SENS_A the frame has begun. -/
theorem addressedTx_cnt_ne_phase0 (p : SensorParams) (b : Byte) (d : Sensor) :
    (addressedTx p b d).1.cnt ≠ .phase0 := by
  cases h : d.cnt with
  | phase0 => rw [addressedTx_of_phase0 h]; nofun
  | phase1 => rw [addressedTx_of_phase1 h]; split <;> nofun
  | used => rw [addressedTx_of_used h, h]; nofun

section invariant
variable {p : SensorParams} {d d' : Sensor}

/-- R182, R192: a byte keeps the invariants, since it leaves ID, leaves CTRL or masks it, and leaves the frame begun.
-/
theorem Sensor.Inv.of_byte (h : d.Inv p) (hid : d'.id = d.id)
    (hctrl : d'.ctrl = d.ctrl ∨ ∃ b : Byte, d'.ctrl = b &&& p.ctrlWMask) (hcnt : d'.cnt ≠ .phase0) : d'.Inv p := by
  obtain ⟨hidConst, hmask, -⟩ := h
  refine ⟨hid.trans hidConst, ?_, fun hc => absurd hc hcnt⟩
  obtain hctrl | ⟨b, hctrl⟩ := hctrl
  · rw [hctrl, hmask]
  · rw [hctrl, BitVec.and_assoc, BitVec.and_not_self]
    exact BitVec.and_zero

theorem Sensor.Inv.frameStart (h : d.Inv p) : d.frameStart.Inv p := by
  obtain ⟨hidConst, hmask, -⟩ := h
  exact ⟨hidConst, hmask, fun _ => rfl⟩

theorem Sensor.Inv.reset (id : SensorId) (p : SensorParams) (d : Sensor) : (Sensor.reset id p d).Inv p :=
  ⟨rfl, BitVec.zero_and, fun _ => rfl⟩

theorem Sensor.Inv.addressedTx (h : d.Inv p) (b : Byte) : (addressedTx p b d).1.Inv p := by
  obtain ⟨hid, -, hctrl, -⟩ := addressedTx_frame p b d
  exact h.of_byte hid (hctrl.imp_right fun hc => ⟨b, hc.2.2⟩) (addressedTx_cnt_ne_phase0 p b d)

theorem Sensor.Inv.addressedRx (h : d.Inv p) {r : ByteResult} (hr : addressedRx p d = some r) : r.dev.Inv p := by
  obtain ⟨hid, hctrl, -, hcnt, -⟩ := addressedRx_frame hr
  exact h.of_byte hid (.inl hctrl) (by rw [hcnt]; nofun)

theorem Sensor.Inv.commandXfer {cfg : Params} (h : d.Inv cfg.sensC) {b : Byte} {r : ByteResult}
    (hr : commandXfer cfg b d = .ok r) : r.dev.Inv cfg.sensC := by
  obtain ⟨hid, hcnt, -, hctrl⟩ := commandXfer_frame hr
  exact h.of_byte hid (hctrl.imp_right fun hc => ⟨b, hc.2.2.2⟩) hcnt

/-- R225: SENS_C waits for data only after a byte that was taken as a command. -/
theorem started_of_commandXfer {cfg : Params} {b : Byte} {r : ByteResult} (hr : commandXfer cfg b d = .ok r) :
    r.dev.Started cfg := by
  cases hcnt : d.cnt with
  | phase0 =>
    rw [commandXfer_of_phase0 hcnt] at hr
    split at hr <;> cases hr
    next hstart =>
      intro _
      have hptr : (d.commanded cfg b).ptr = b := by rw [(d.commanded_spec cfg b).1]
      simpa only [Sensor.drawByte, hptr] using hstart
  | phase1 =>
    have hstart : (commandFields cfg d.ptr).start = true := by
      by_contra hs
      rw [commandXfer_eq_error.mpr (.inr ⟨hcnt, eq_false_of_ne_true hs, rfl⟩)] at hr
      cases hr
    cases hread : (commandFields cfg d.ptr).isRead with
    | true => rw [commandXfer_of_read hcnt hstart hread] at hr; cases hr; nofun
    | false => rw [commandXfer_of_write hcnt hstart hread] at hr; cases hr; split <;> nofun
  | used => rw [commandXfer_of_used hcnt] at hr; cases hr; exact fun hc => by rw [Sensor.drawByte, hcnt] at hc; cases hc

end invariant

/-- Settles O57: the reset state of a sensor (O31). -/
theorem resetMeetsSensorInvariants : Obligations.ResetMeetsSensorInvariants :=
  ⟨⟨rfl, BitVec.zero_and, fun _ => rfl⟩, ⟨rfl, BitVec.zero_and, fun _ => rfl⟩, nofun⟩

/-- Settles O58: each of the ways in which a sensor can change keeps the invariants. -/
theorem stepKeepsSensorInvariants : Obligations.StepKeepsSensorInvariants := by
  intro s t ha hc hstarted h
  obtain ⟨-, rfl⟩ | ⟨op, rest, i, -, -, hperform⟩ := step_cases h
  · exact ⟨ha, hc, hstarted⟩
  rw [parametersNeverChange s t h]
  refine ⟨?_, ?_⟩
  · obtain heq | ⟨-, heq⟩ | ⟨b, -, heq⟩ | ⟨r, -, hr, heq⟩ | ⟨-, heq⟩ := perform_sensA_cases hperform <;> rw [heq]
    · exact ha
    · exact ha.frameStart
    · exact ha.addressedTx b
    · exact ha.addressedRx hr
    · exact Sensor.Inv.reset .a _ _
  · obtain heq | ⟨-, heq⟩ | ⟨b, r, -, hr, heq⟩ | ⟨-, heq⟩ := perform_sensC_cases hperform <;> rw [heq]
    · exact ⟨hc, hstarted⟩
    · exact ⟨hc.frameStart, nofun⟩
    · exact ⟨hc.commandXfer hr, started_of_commandXfer hr⟩
    · exact ⟨Sensor.Inv.reset .c _ _, nofun⟩

/-- Settles O59: of the ways in which a sensor can change, only its reset and the data byte of index 1 touch CTRL. -/
theorem controlChangesOnlyByItsWrite : Obligations.ControlChangesOnlyByItsWrite := by
  intro s t op rest hp h
  obtain ⟨i, -, hperform⟩ := step_next_of_pending hp h
  refine ⟨fun hne => ?_, fun hne => ?_⟩
  · obtain heq | ⟨-, heq⟩ | ⟨b, hop, heq⟩ | ⟨r, -, hr, heq⟩ | ⟨hop, -⟩ := perform_sensA_cases hperform
    · exact absurd (congrArg Sensor.ctrl heq) hne
    · exact absurd (congrArg Sensor.ctrl heq) hne
    · obtain ⟨-, -, hctrl | ⟨hcnt, hptr, -⟩, -⟩ := addressedTx_frame s.cfg.sensA b s.sensA
      · exact absurd ((congrArg Sensor.ctrl heq).trans hctrl) hne
      · exact .inr ⟨b, hop, hcnt, BitVec.eq_of_toNat_eq hptr⟩
    · obtain ⟨-, hctrl, -⟩ := addressedRx_frame hr
      exact absurd ((congrArg Sensor.ctrl heq).trans hctrl) hne
    · exact .inl hop
  · obtain heq | ⟨-, heq⟩ | ⟨b, r, hop, hr, heq⟩ | ⟨hop, -⟩ := perform_sensC_cases hperform
    · exact absurd (congrArg Sensor.ctrl heq) hne
    · exact absurd (congrArg Sensor.ctrl heq) hne
    · obtain ⟨-, -, -, hctrl | ⟨hcnt, hwrite, hreg, -⟩⟩ := commandXfer_frame hr
      · exact absurd ((congrArg Sensor.ctrl heq).trans hctrl) hne
      · exact .inr ⟨b, hop, hcnt, hwrite, hreg⟩
    · exact .inl hop

end Sys2Proof.Machine
end

section
/-! Whole transactions (44_sensor_common.md R194): a frame of each kind as one run, from every state, then the laws as
runs of two frames. -/

namespace Sys2Proof.Machine

/-- R62: a run that goes on is the beginning of any longer run. -/
theorem steps_add {k : Nat} {s t : State} (h : steps k s = .next t) (m : Nat) : steps (m + k) s = steps m t := by
  induction k generalizing s with
  | zero => cases h; rfl
  | succ k ih =>
    cases hstep : step s with
    | next u => rw [← Nat.add_assoc, steps_succ hstep]; exact ih (steps_succ hstep k ▸ h)
    | fault e => simp only [steps, hstep] at h; cases h
    | refused e => simp only [steps, hstep] at h; cases h

section frames
variable {s : State} {rest : List Op}

/-- R91, R201 to R206, R218 to R222: the bytes of a frame have a row in every state, so a step performs them. -/
theorem step_aSel (h : s.pending = .aSel :: rest) :
    step s = .next (({ s with pending := rest }.setSensA s.sensA.frameStart).answer .nothing []) :=
  step_of_row (ph := s.phases) h rfl

theorem step_aDesel (h : s.pending = .aDesel :: rest) :
    step s = .next ({ s with pending := rest }.answer .nothing []) :=
  step_of_row (ph := s.phases) h rfl

theorem step_aTx {b : Byte} (h : s.pending = .aTx b :: rest) : step s = sendA b { s with pending := rest } :=
  step_of_row (ph := s.phases) h rfl

theorem step_aRx (h : s.pending = .aRx :: rest) : step s = receiveA { s with pending := rest } :=
  step_of_row (ph := s.phases) h rfl

theorem step_aRst (h : s.pending = .aRst :: rest) :
    ∃ t, step s = .next t ∧ t.pending = rest ∧ t.cfg = s.cfg ∧ t.sensA = Sensor.reset .a s.cfg.sensA s.sensA :=
  ⟨_, step_of_row (ph := s.phases) h rfl, rfl, rfl, rfl⟩

theorem step_cSel (h : s.pending = .cSel :: rest) :
    ∃ t, step s = .next t ∧ t.pending = rest ∧ t.cfg = s.cfg ∧ t.sensC = s.sensC.frameStart :=
  ⟨_, step_of_row (ph := s.phases) h rfl, rfl, rfl, rfl⟩

theorem step_cDesel (h : s.pending = .cDesel :: rest) :
    step s = .next ({ s with pending := rest }.answer .nothing []) :=
  step_of_row (ph := s.phases) h rfl

theorem step_cXfer {b : Byte} (h : s.pending = .cXfer b :: rest) : step s = exchangeC b { s with pending := rest } :=
  step_of_row (ph := s.phases) h rfl

theorem step_cRst (h : s.pending = .cRst :: rest) :
    ∃ t, step s = .next t ∧ t.pending = rest ∧ t.cfg = s.cfg ∧ t.sensC = Sensor.reset .c s.cfg.sensC s.sensC :=
  ⟨_, step_of_row (ph := s.phases) h rfl, rfl, rfl, rfl⟩

/-- R189, R201: what a frame start and a pointer byte leave. -/
def State.pointed (s : State) (r : Byte) (rest : List Op) : State :=
  { s with
    sensA := { s.sensA with ptr := r, cnt := .phase1 }, reply := { value := .nothing, diags := [] }, pending := rest }

theorem State.pointed_ptr (s : State) (r : Byte) (rest : List Op) : (s.pointed r rest).sensA.ptr = r := rfl

theorem steps_pointer {r : Byte} (h : s.pending = .aSel :: .aTx r :: rest) : steps 2 s = .next (s.pointed r rest) := by
  rw [steps_succ (step_aSel h), steps_succ (step_aTx rfl)]
  rfl

/-- R189, R205: a frame that reads a register of SENS_A. -/
theorem steps_readTransactionA {r : Byte} (h : s.pending = [.aSel, .aTx r, .aRx]) :
    ∃ t b, steps 3 s = .next t ∧
      t.reply = { value := .byte b, diags := if 3 ≤ r.toNat then [.readNonexistent] else [] } ∧
      (r = 0x00 → b = s.sensA.id) ∧
      (r = 0x02 → if s.sensA.ctrl.getLsbD 0 then b ∈ s.cfg.sensA.measSet else b = 0xFF) := by
  obtain ⟨t, b, hread, hframe, hid, -, htemp, -⟩ := addressedReadEffect (s.pointed r []) .aRxData rfl rfl
  refine ⟨t, b, ?_, by rw [hframe]; rfl, hid, fun hr => ?_⟩
  · have hstep : step (s.pointed r [.aRx]) = .next t := (step_aRx rfl).trans hread
    rw [steps_add (steps_pointer h) 1, steps_succ hstep]
    rfl
  · obtain ⟨hb, hmember⟩ := htemp hr
    exact hb ▸ hmember

/-- R189, R191, R202: a frame that writes a register of SENS_A. -/
theorem steps_writeTransactionA {r b : Byte} (h : s.pending = .aSel :: .aTx r :: .aTx b :: .aDesel :: rest) :
    ∃ t, steps 4 s = .next t ∧ t.pending = rest ∧ t.cfg = s.cfg ∧
      t.sensA = { s.sensA with
        ptr := r, cnt := .used, ctrl := if r = 0x01 then b &&& s.cfg.sensA.ctrlWMask else s.sensA.ctrl } := by
  have hwrite := addressedWriteEffect (s.pointed r (.aDesel :: rest)) (.aTxData b) b rfl rfl
  rw [State.pointed_ptr] at hwrite
  have hstep : step (s.pointed r (.aTx b :: .aDesel :: rest)) = _ := (step_aTx rfl).trans hwrite
  rw [steps_add (steps_pointer h) 2]
  by_cases hr : r = 0x01
  · rw [if_pos hr] at hstep ⊢
    rw [steps_succ hstep, steps_succ (step_aDesel rfl)]
    exact ⟨_, rfl, rfl, rfl, rfl⟩
  · rw [if_neg hr] at hstep ⊢
    rw [steps_succ hstep, steps_succ (step_aDesel rfl)]
    exact ⟨_, rfl, rfl, rfl, rfl⟩

/-- R218: what a frame start and a command byte leave. -/
theorem steps_command {c : Byte} (h : s.pending = .cSel :: .cXfer c :: rest)
    (hstart : (commandFields s.cfg c).start = true) :
    ∃ t, steps 2 s = .next t ∧ t.pending = rest ∧ t.cfg = s.cfg ∧
      t.sensC = { s.sensC with ptr := c, cnt := .phase1, temp := t.sensC.temp, draws := t.sensC.draws } ∧
      if (commandFields s.cfg c).isRead = true ∧ (commandFields s.cfg c).reg = 2 then
        if s.sensC.ctrl.getLsbD 0 then t.sensC.temp ∈ s.cfg.sensC.measSet else t.sensC.temp = 0xFF
      else t.sensC.temp = s.sensC.temp := by
  obtain ⟨s₁, hsel, hpending, hcfg, hsens⟩ := step_cSel h
  rw [← hcfg] at hstart
  obtain ⟨t, b, hcommand, hframe, htemp⟩ :=
    commandByteEffect { s₁ with pending := rest } (.cXferOversized c) c rfl (by rw [hsens]; rfl) hstart
  have hrun : steps 2 s = .next t :=
    (steps_succ hsel 1).trans (steps_succ ((step_cXfer hpending).trans hcommand) 0)
  have hctrl : s₁.sensC.ctrl = s.sensC.ctrl := by rw [hsens]; rfl
  have htemp₁ : s₁.sensC.temp = s.sensC.temp := by rw [hsens]; rfl
  refine ⟨t, hrun, by rw [hframe], by rw [hframe]; exact hcfg, ?_, ?_⟩
  · rw [hframe, hsens]
    rfl
  · simpa only [hcfg, hctrl, htemp₁] using htemp

/-- R189, R220: a frame that reads a register of SENS_C; TEMPERATURE is the one that its command byte refreshed. -/
theorem steps_readTransactionC {c d : Byte} (h : s.pending = [.cSel, .cXfer c, .cXfer d])
    (hstart : (commandFields s.cfg c).start = true) (hread : (commandFields s.cfg c).isRead = true) :
    ∃ t b, steps 3 s = .next t ∧
      t.reply =
        { value := .byte b, diags := if 3 ≤ (commandFields s.cfg c).reg then [.readNonexistent] else [] } ∧
      ((commandFields s.cfg c).reg = 0 → b = s.sensC.id) ∧
      ((commandFields s.cfg c).reg = 2 →
        if s.sensC.ctrl.getLsbD 0 then b ∈ s.cfg.sensC.measSet else b = 0xFF) := by
  obtain ⟨s₁, hsteps, hpending, hcfg, hsens, htemp⟩ := steps_command h hstart
  have hcnt : s₁.sensC.cnt = .phase1 := by rw [hsens]
  have hptr : s₁.sensC.ptr = c := by rw [hsens]
  have hid₁ : s₁.sensC.id = s.sensC.id := by rw [hsens]
  have hfields : commandFields s₁.cfg s₁.sensC.ptr = commandFields s.cfg c := by rw [hcfg, hptr]
  obtain ⟨b, k, hdata, hid, -, htemp₁⟩ := commandReadDataEffect { s₁ with pending := [] } (.cXferReadData d) d rfl hcnt
    (by rw [hfields]; exact hstart) (by rw [hfields]; exact hread)
  rw [hfields] at hdata hid htemp₁
  have hrun := (steps_add hsteps 1).trans (steps_succ ((step_cXfer hpending).trans hdata) 0)
  refine ⟨_, b, hrun, rfl, fun hr => (hid hr).trans hid₁, fun hr => ?_⟩
  rw [if_pos ⟨hread, hr⟩] at htemp
  rw [htemp₁ hr]
  exact htemp

/-- R189, R191, R221: a frame that writes a register of SENS_C. -/
theorem steps_writeTransactionC {c b : Byte} (h : s.pending = .cSel :: .cXfer c :: .cXfer b :: .cDesel :: rest)
    (hstart : (commandFields s.cfg c).start = true) (hwrite : (commandFields s.cfg c).isRead = false) :
    ∃ t, steps 4 s = .next t ∧ t.pending = rest ∧ t.cfg = s.cfg ∧ t.sensC.id = s.sensC.id ∧
      t.sensC.temp = s.sensC.temp ∧
      t.sensC.ctrl = if (commandFields s.cfg c).reg = 1 then b &&& s.cfg.sensC.ctrlWMask else s.sensC.ctrl := by
  obtain ⟨s₁, hsteps, hpending, hcfg, hsens, htemp⟩ := steps_command h hstart
  have hcnt : s₁.sensC.cnt = .phase1 := by rw [hsens]
  have hptr : s₁.sensC.ptr = c := by rw [hsens]
  have hid : s₁.sensC.id = s.sensC.id := by rw [hsens]
  have hctrl : s₁.sensC.ctrl = s.sensC.ctrl := by rw [hsens]
  have hfields : commandFields s₁.cfg s₁.sensC.ptr = commandFields s.cfg c := by rw [hcfg, hptr]
  rw [if_neg (by simp [hwrite])] at htemp
  obtain ⟨b', k, hdata⟩ := commandWriteDataEffect { s₁ with pending := .cDesel :: rest } (.cXferWriteData b) b rfl hcnt
    (by rw [hfields]; exact hstart) (by rw [hfields]; exact hwrite)
  rw [hfields] at hdata
  have hstep := (step_cXfer hpending).trans hdata
  rw [steps_add hsteps 2]
  by_cases hr : (commandFields s.cfg c).reg = 1
  · rw [if_pos hr] at hstep ⊢
    rw [steps_succ hstep, steps_succ (step_cDesel rfl)]
    exact ⟨_, rfl, rfl, hcfg, hid, htemp, by rw [← hcfg]; rfl⟩
  · rw [if_neg hr] at hstep ⊢
    rw [steps_succ hstep, steps_succ (step_cDesel rfl)]
    exact ⟨_, rfl, rfl, hcfg, hid, htemp, hctrl⟩

end frames

/-- R12: a written enable bit is stored. -/
theorem ite_masked_enable {α : Type} (p : SensorParams) (b : Byte) (x y : α) :
    (if (b &&& p.ctrlWMask).getLsbD 0 then x else y) = if b.getLsbD 0 then x else y := by
  rw [ctrlWMask_bit_zero]

/-- Settles O55: the reset, then a read; a write of CTRL, then a read, which meets the enable bit as written; a write
of ID or TEMPERATURE. -/
theorem addressedTransactions : Obligations.AddressedTransactions := by
  intro s b
  refine ⟨?_, ?_, ?_, ?_⟩
  · obtain ⟨s₁, hreset, hpending, hcfg, hsens⟩ := step_aRst
      (s := { s with pending := [.aRst, .aSel, .aTx 0x00, .aRx] }) rfl
    obtain ⟨t, m, hrun, hreply, hid, -⟩ := steps_readTransactionA hpending
    have hm : m = s.cfg.sensA.idConst := (hid rfl).trans (by rw [hsens]; rfl)
    exact ⟨t, (steps_succ hreset 3).trans hrun, hm ▸ hreply⟩
  · obtain ⟨s₁, hreset, hpending, hcfg, hsens⟩ := step_aRst
      (s := { s with pending := [.aRst, .aSel, .aTx 0x02, .aRx] }) rfl
    obtain ⟨t, m, hrun, hreply, -, htemp⟩ := steps_readTransactionA hpending
    have hm := htemp rfl
    rw [hsens, if_neg (by simp [Sensor.reset])] at hm
    exact ⟨t, (steps_succ hreset 3).trans hrun, hm ▸ hreply⟩
  · obtain ⟨s₁, hwrite, hpending, hcfg, hsens⟩ := steps_writeTransactionA
      (s := { s with pending := [.aSel, .aTx 0x01, .aTx b, .aDesel, .aSel, .aTx 0x02, .aRx] }) rfl
    obtain ⟨t, m, hrun, hreply, -, htemp⟩ := steps_readTransactionA hpending
    refine ⟨t, m, (steps_add hwrite 3).trans hrun, hreply, ?_⟩
    have hm := htemp rfl
    rw [hcfg, hsens] at hm
    rwa [← ite_masked_enable s.cfg.sensA]
  · intro r hr
    obtain ⟨t, hrun, -, -, hsens⟩ := steps_writeTransactionA
      (s := { s with pending := [.aSel, .aTx r, .aTx b, .aDesel] }) rfl
    have hne : r ≠ 0x01 := by rcases hr with rfl | rfl <;> decide
    rw [if_neg hne] at hsens
    exact ⟨t, hrun, by rw [hsens], by rw [hsens], by rw [hsens]⟩

/-- Settles O56, as O55, with the command bytes read by the default layout. -/
theorem commandTransactions : Obligations.CommandTransactions := by
  intro s b d hlayout
  have hreadId : commandFields s.cfg 0xC0 = { start := true, isRead := true, reg := 0 } :=
    commandFields_readCommand hlayout 0
  have hreadTemp : commandFields s.cfg 0xC2 = { start := true, isRead := true, reg := 2 } :=
    commandFields_readCommand hlayout 2
  have hwriteCtrl : commandFields s.cfg 0x81 = { start := true, isRead := false, reg := 1 } :=
    commandFields_writeCommand hlayout 1
  have hwriteId : commandFields s.cfg 0x80 = { start := true, isRead := false, reg := 0 } :=
    commandFields_writeCommand hlayout 0
  have hwriteTemp : commandFields s.cfg 0x82 = { start := true, isRead := false, reg := 2 } :=
    commandFields_writeCommand hlayout 2
  refine ⟨?_, ?_, ?_, ?_⟩
  · obtain ⟨s₁, hreset, hpending, hcfg, hsens⟩ := step_cRst
      (s := { s with pending := [.cRst, .cSel, .cXfer 0xC0, .cXfer d] }) rfl
    rw [← hcfg] at hreadId
    obtain ⟨t, m, hrun, hreply, hid, -⟩ := steps_readTransactionC hpending (by rw [hreadId]) (by rw [hreadId])
    rw [hreadId] at hreply hid
    have hm : m = s.cfg.sensC.idConst := (hid rfl).trans (by rw [hsens]; rfl)
    exact ⟨t, (steps_succ hreset 3).trans hrun, hm ▸ hreply⟩
  · obtain ⟨s₁, hreset, hpending, hcfg, hsens⟩ := step_cRst
      (s := { s with pending := [.cRst, .cSel, .cXfer 0xC2, .cXfer d] }) rfl
    rw [← hcfg] at hreadTemp
    obtain ⟨t, m, hrun, hreply, -, htemp⟩ := steps_readTransactionC hpending (by rw [hreadTemp]) (by rw [hreadTemp])
    rw [hreadTemp] at hreply htemp
    have hm := htemp rfl
    rw [hsens, if_neg (by simp [Sensor.reset])] at hm
    exact ⟨t, (steps_succ hreset 3).trans hrun, hm ▸ hreply⟩
  · obtain ⟨s₁, hwrite, hpending, hcfg, -, -, hctrl⟩ := steps_writeTransactionC
      (s := { s with pending := [.cSel, .cXfer 0x81, .cXfer b, .cDesel, .cSel, .cXfer 0xC2, .cXfer d] }) rfl
      (congrArg CmdFields.start hwriteCtrl) (congrArg CmdFields.isRead hwriteCtrl)
    rw [← hcfg] at hreadTemp
    obtain ⟨t, m, hrun, hreply, -, htemp⟩ := steps_readTransactionC hpending (by rw [hreadTemp]) (by rw [hreadTemp])
    rw [hreadTemp] at hreply htemp
    have hm := htemp rfl
    rw [hcfg, hctrl, if_pos (congrArg CmdFields.reg hwriteCtrl)] at hm
    exact ⟨t, m, (steps_add hwrite 3).trans hrun, hreply, ite_masked_enable s.cfg.sensC b _ _ ▸ hm⟩
  · intro c hc
    have hfields : (commandFields s.cfg c).start = true ∧ (commandFields s.cfg c).isRead = false ∧
        (commandFields s.cfg c).reg ≠ 1 := by
      rcases hc with rfl | rfl
      · rw [hwriteId]; decide
      · rw [hwriteTemp]; decide
    obtain ⟨hstart, hwrite, hreg⟩ := hfields
    obtain ⟨t, hrun, -, -, hid, htemp, hctrl⟩ := steps_writeTransactionC
      (s := { s with pending := [.cSel, .cXfer c, .cXfer b, .cDesel] }) rfl hstart hwrite
    exact ⟨t, hrun, hid, hctrl.trans (if_neg hreg), htemp⟩

end Sys2Proof.Machine
end

section
/-! Words by their bits: the write masks (40_gpio_port_bank.md R101 to R107), and when a word lies inside a mask. -/

namespace Sys2Proof.Machine

theorem word_ext_of_bits {x y : Word} (h : ∀ l : Fin 32, x.getLsbD l.val = true ↔ y.getLsbD l.val = true) : x = y :=
  BitVec.eq_of_getLsbD_eq fun i hi => Bool.eq_iff_iff.mpr (h ⟨i, hi⟩)

/-- A word is 0 outside a mask just when each of its bits is one of the mask. -/
theorem and_not_eq_zero_iff {x m : Word} :
    x &&& ~~~m = 0 ↔ ∀ l : Fin 32, x.getLsbD l.val = true → m.getLsbD l.val = true := by
  constructor
  · intro h l hx
    have hbit := congrArg (fun w : Word => w.getLsbD l.val) h
    simpa [hx] using hbit
  · intro h
    refine BitVec.eq_of_getLsbD_eq fun i hi => ?_
    cases hx : x.getLsbD i with
    | false => simp [hx]
    | true => simp [h ⟨i, hi⟩ hx]

/-- R16: ones(k) has its lowest k bits set. -/
theorem getLsbD_ones {b : Nat} (hb : b < 32) (k : Nat) : (ones k).getLsbD b = decide (b < k) := by
  rw [ones, BitVec.getLsbD_ofNat, Nat.testBit_two_pow_sub_one]
  simp [hb]

/-- R101: the pattern keeps the lower three bits of each 4-bit field. -/
theorem getLsbD_cfgPattern {b : Nat} (hb : b < 32) : cfgPattern.getLsbD b = decide (b % 4 ≠ 3) := by
  interval_cases b <;> rfl

section masks
variable {b : Nat} (hb : b < 32) (p : Nat)
include hb

theorem getLsbD_maskCfg {j : Nat} : (maskCfg j p).getLsbD b = decide (b % 4 ≠ 3 ∧ 8 * j + b / 4 < p) := by
  rw [maskCfg, BitVec.getLsbD_and, getLsbD_ones hb, getLsbD_cfgPattern hb, ← Bool.decide_and]
  exact decide_eq_decide.mpr (by omega)

theorem getLsbD_maskDat : (maskDat p).getLsbD b = decide (b < p) := getLsbD_ones hb p

theorem getLsbD_maskDrvPul {k : Nat} : (maskDrvPul k p).getLsbD b = decide (16 * k + b / 2 < p) := by
  rw [maskDrvPul, getLsbD_ones hb]
  exact decide_eq_decide.mpr (by omega)

end masks

/-- Settles O14: each register's mask is one of three forms, whose bits the lemmas above give. -/
theorem maskKeepsFieldsOfExistingPins : Obligations.MaskKeepsFieldsOfExistingPins := by
  intro p b _ _ hb
  refine ⟨?_, getLsbD_maskDat hb p, ?_⟩
  · simp only [List.forall_mem_cons, portMask]
    exact ⟨getLsbD_maskCfg hb p, getLsbD_maskCfg hb p, getLsbD_maskCfg hb p, getLsbD_maskCfg hb p, nofun⟩
  · simp only [List.forall_mem_cons, portMask]
    exact ⟨getLsbD_maskDrvPul hb p, getLsbD_maskDrvPul hb p, getLsbD_maskDrvPul hb p, getLsbD_maskDrvPul hb p, nofun⟩

/-- Settles O15: the table is evaluated; PUL has the masks of DRV by definition. -/
theorem masksAreTheTable : Obligations.MasksAreTheTable := ⟨by decide, fun _ => ⟨rfl, rfl⟩⟩

/-- Settles O24: the direction is decided by the lower three bits of the field, one of sixteen. -/
theorem directionCodesPartition : Obligations.DirectionCodesPartition := by
  intro g n i
  unfold Gpio.isInput Gpio.isOutput Gpio.isReserved
  generalize g.cfgField n i = field
  revert field
  decide

theorem Gpio.isOutput_of_isInput {g : Gpio} {n i : Nat} (h : g.isInput n i = true) : g.isOutput n i = false := by
  have hpartition := directionCodesPartition g n i
  simp_all

theorem Gpio.isInput_of_isOutput {g : Gpio} {n i : Nat} (h : g.isOutput n i = true) : g.isInput n i = false := by
  cases hin : g.isInput n i with
  | false => rfl
  | true => rw [Gpio.isOutput_of_isInput hin] at h; cases h

/-- R153: with both levels equal a mode fires only if it is a level mode. -/
theorem level_mode_of_fire {m : BitVec 3} {b : Bool} (h : fire m b b = true) : m = 2 ∨ m = 3 := by
  revert m b
  decide

end Sys2Proof.Machine
end

section
/-! What `WR` does at a global register and at an offset of no register (42_gpio_irq_engine.md R149 to R152;
43_gpio_controller.md R164), and what a port register reads back (40_gpio_port_bank.md R115). -/

namespace Sys2Proof.Machine

/-- R162: a row that stands for `WR off, v` is the write at `off`. -/
theorem exec_of_encode_wr {i : Instr} {size off : Nat} {v : Word} (h : encode i = .wr size off v) (s : State) :
    exec i s = writeRegister off v s := by
  rw [exec_eq_perform, h]
  rfl

/-- R164: `WR` at an offset of no register raises one GuestError. -/
theorem writeRegister_of_unmapped {s : State} {off : Nat} (v : Word)
    (h : decodeOffset s.cfg.nPorts off = .unmapped) :
    writeRegister off v s = .next (s.answer .nothing [.guestError off (some v)]) := by
  simp only [writeRegister, h]

/-- Settles O12: each of the three rows stands for `WR off, v`, and the offset decodes to no register of the block. -/
theorem unmappedWriteChangesNothing : Obligations.UnmappedWriteChangesNothing := by
  intro s off v i hrow hoff
  have hencode : encode i = .wr 4 off v := by
    obtain rfl | rfl | ⟨p, k, rfl, rfl⟩ := hrow
    · rfl
    · rfl
    · exact encode_wrPort p k v
  exact (exec_of_encode_wr hencode s).trans (writeRegister_of_unmapped v (decodeOffset_eq_unmapped hoff))

/-- The words of the global registers other than INT_STA. -/
def globalWords : List Nat := [128, 129, 130, 131, 132, 134]

theorem globalWords_bounds {w : Nat} (h : w ∈ globalWords) : 128 ≤ w ∧ w ≤ 134 ∧ w ≠ intStaIdx := by
  simp only [globalWords, List.mem_cons, List.not_mem_nil, or_false] at h
  unfold intStaIdx
  omega

section global
variable {s : State} (hwf : s.cfg.Wf) (v : Word)
include hwf

/-- R149, R150, R152: `WR` at INT_CFG, INT_CTL and INT_DEB. -/
theorem writeRegister_global {w : Nat} (hw : w ∈ globalWords) :
    writeRegister (4 * w) v s = .next ((s.setGpio (s.gpio.writeGlobal s.cfg w v)).answer .nothing []) := by
  obtain ⟨hcfg, hctl, -, hdeb⟩ := decodeOffset_global hwf.1.2
  obtain ⟨hlo, hhi, hsta⟩ := globalWords_bounds hw
  by_cases hslot : w < 132
  · have hd : decodeOffset s.cfg.nPorts (4 * w) = .intCfg ⟨w - 128, by omega⟩ := by
      rw [← hcfg ⟨w - 128, by omega⟩]
      exact congrArg _ (by simp only; omega)
    have hidx : intCfgIdx (w - 128) = w := by unfold intCfgIdx; omega
    simp only [writeRegister, hd, hidx]
  · obtain rfl | rfl : w = 132 ∨ w = 134 := by unfold intStaIdx at hsta; omega
    · simp only [writeRegister, hctl]; rfl
    · simp only [writeRegister, hdeb]; rfl

/-- R151: `WR` at INT_STA. -/
theorem writeRegister_status :
    writeRegister 0x214 v s = .next ((s.setGpio (s.gpio.writeStatus s.cfg v)).answer .nothing []) := by
  obtain ⟨-, -, hsta, -⟩ := decodeOffset_global hwf.1.2
  simp only [writeRegister, hsta]

end global

section effects
variable {cfg : Params} (h : cfg.Wf) (v : Word) (g : Gpio)
include h

theorem Gpio.SameButStatus.anyRaises {g g' : Gpio} (a : g.SameButStatus g') (l : Fin 32) :
    g'.anyRaises cfg l ↔ g.anyRaises cfg l :=
  exists_congr fun n => and_congr_right fun _ => a.portRaises cfg h n l

/-- R149, R150, R152: what a global write leaves of the words. -/
theorem Gpio.word_writeGlobal {w : Nat} (hw : w ∈ globalWords) {w' : Nat} (hw' : w' ≠ intStaIdx) :
    (g.writeGlobal cfg w v).word w' = if w' = w then v else g.word w' := by
  obtain ⟨-, hhi, hsta⟩ := globalWords_bounds hw
  obtain ⟨hword, -⟩ := Gpio.writeGlobal_spec cfg h hsta v g
  have hstored : w < 135 := by omega
  simp only [hword w' hw', Gpio.word_setWord, hstored, and_true]

/-- R144: the status bits after a global write, by the words that it leaves. -/
theorem Gpio.status_writeGlobal {w : Nat} (hw : w ∈ globalWords) (l : Fin 32) :
    (g.writeGlobal cfg w v).status l = true ↔
      (g.status l = true ∨ (g.writeGlobal cfg w v).anyRaises cfg l) := by
  obtain ⟨-, -, hsta⟩ := globalWords_bounds hw
  obtain ⟨hword, -, -, hstatus⟩ := Gpio.writeGlobal_spec cfg h hsta v g
  exact (hstatus l).trans (or_congr_right ((Gpio.sameButStatus_of_words hword).anyRaises h l).symm)

/-- R151: without W1C_REEVAL a write of INT_STA clears the bits written as 1 and does no more. -/
theorem Gpio.word_writeStatus_of_no_reeval (hr : cfg.w1cReeval = false) :
    (g.writeStatus cfg v).word intStaIdx = g.word intStaIdx &&& ~~~v := by
  obtain ⟨-, -, -, hstatus⟩ := Gpio.writeStatus_spec cfg h v g
  refine word_ext_of_bits fun l => (hstatus l).trans ?_
  simp [hr]

end effects

/-- Settles O16: the word holds the masked value after the first write and again after the second. -/
theorem portWordReadsBackMasked : Obligations.PortWordReadsBackMasked := by
  intro s n k v iw ir iw' hwf hn hiw hir hiw'
  have hne : portIdx n k ≠ intStaIdx := Nat.ne_of_lt (portIdx_lt_intStaIdx hwf hn k)
  have hstored (x : Word) (g : Gpio) :
      (g.writePort s.cfg n k (portIdx n k) x).word (portIdx n k) = x &&& portMask k (s.cfg.pinCount n) :=
    (Gpio.word_writePort hwf hn k x g hne).trans (if_pos rfl)
  let t := (s.setGpio (s.gpio.writePort s.cfg n k (portIdx n k) v)).answer .nothing []
  refine ⟨t, _, exec_of_writesPort hn hiw, ?_, exec_of_writesPort (s := t) hn hiw', ?_⟩
  · rw [exec_of_readsPort (s := t) hn hir, ← hstored v s.gpio]
    rfl
  · refine (hstored _ t.gpio).trans (Eq.trans ?_ (hstored v s.gpio).symm)
    rw [BitVec.and_assoc, BitVec.and_self]

/-- R75: the `WR` row of a global register but INT_STA stands for `WR` at the offset of its word. -/
theorem encode_globalWriteRow {v : Word} {iw : Instr × Nat}
    (h : iw ∈ [(Instr.wrIntCfg0 v, 128), (Instr.wrIntCfg1 v, 129), (Instr.wrIntCfg2 v, 130), (Instr.wrIntCfg3 v, 131),
      (Instr.wrIntCtl v, 132), (Instr.wrIntDeb v, 134)]) :
    encode iw.1 = .wr 4 (4 * iw.2) v ∧ iw.2 ∈ globalWords := by
  simp only [List.mem_cons, List.not_mem_nil, or_false] at h
  obtain rfl | rfl | rfl | rfl | rfl | rfl := h <;> exact ⟨rfl, by simp [globalWords]⟩

/-- Settles O17: the row is the one global write, whose words and status bits the lemmas above give. -/
theorem globalWriteEffect : Obligations.GlobalWriteEffect := by
  intro s v hwf iw hiw
  obtain ⟨hencode, hw⟩ := encode_globalWriteRow hiw
  obtain ⟨-, -, hsta⟩ := globalWords_bounds hw
  obtain ⟨-, hout, hirq, -⟩ := Gpio.writeGlobal_spec s.cfg hwf hsta v s.gpio
  refine ⟨_, (exec_of_encode_wr hencode s).trans (writeRegister_global hwf v hw), ?word, ?otherWords, ?status,
    hirq, hout, rfl⟩
  case word => exact (Gpio.word_writeGlobal hwf v s.gpio hw hsta).trans (if_pos rfl)
  case otherWords => exact fun w hne hw' => (Gpio.word_writeGlobal hwf v s.gpio hw hw').trans (if_neg hne)
  case status => exact Gpio.status_writeGlobal hwf v s.gpio hw

/-- Settles O18. -/
theorem statusWriteEffect : Obligations.StatusWriteEffect := by
  intro s v hwf
  obtain ⟨hword, hout, hirq, hstatus⟩ := Gpio.writeStatus_spec s.cfg hwf v s.gpio
  refine ⟨_, (exec_of_encode_wr rfl s).trans (writeRegister_status hwf v),
    Gpio.word_writeStatus_of_no_reeval hwf v s.gpio, ?_, hword, hirq, hout, rfl⟩
  intro hr l
  refine (hstatus l).trans ?_
  simp only [hr, true_and]

/-- Settles O23: of the enabled status bits only that of line l was set, and the write clears it. -/
theorem acknowledgeDropsTheLine : Obligations.AcknowledgeDropsTheLine := by
  intro s l hwf hr hothers
  obtain ⟨hword, -, hirq, hstatus⟩ := Gpio.writeStatus_spec s.cfg hwf ((1 : Word) <<< l.val) s.gpio
  refine ⟨_, (exec_of_encode_wr rfl s).trans (writeRegister_status hwf _), ?_, ?_⟩
  · refine eq_false_of_ne_true (mt (hstatus l).mp ?_)
    simp [hr]
  · refine hirq.trans ?_
    rw [hword intCtlIdx (by decide), Gpio.word_writeStatus_of_no_reeval hwf _ s.gpio hr, ← BitVec.and_assoc]
    exact bne_eq_false_iff_eq.mpr hothers

end Sys2Proof.Machine
end

section
/-! What every step keeps of GPIO (10_state.md R20, R30, R33; 41_gpio_pin_decoder.md R130; 42_gpio_irq_engine.md R141,
R154): the five ways in which an operation changes GPIO, said once, and each law read off them. -/

namespace Sys2Proof.Machine

/-- R70: the ways in which an operation changes GPIO. -/
inductive GpioChange (cfg : Params) (g : Gpio) : Op → Gpio → Prop
  | none (op : Op) : GpioChange cfg g op g
  | port (n : Nat) (k : PortReg) (v : Word) (hn : n < cfg.nPorts) :
      GpioChange cfg g (.wr 4 (0x24 * n + 4 * k.index) v) (g.writePort cfg n k (portIdx n k) v)
  | global (w : Nat) (v : Word) (hw : w ∈ globalWords) : GpioChange cfg g (.wr 4 (4 * w) v) (g.writeGlobal cfg w v)
  | status (v : Word) : GpioChange cfg g (.wr 4 0x214 v) (g.writeStatus cfg v)
  | pin (n i : Nat) (l : Bool) (hn : n < cfg.nPorts) (hi : i < cfg.pinCount n) :
      GpioChange cfg g (.pin n i l) (g.setPin cfg n i l)
  | rst : GpioChange cfg g .rst Gpio.reset

/-- R161, R162, R166, R170: an operation that has a row changes GPIO in one of these ways. -/
theorem gpioChange_of_perform {op : Op} {s t : State} {ph : Phases} {i : Instr} (hd : decode s.cfg ph op = .ok i)
    (h : perform op s = .next t) : GpioChange s.cfg s.gpio op t.gpio := by
  by_cases hdev : Device.gpio = deviceOf op
  case neg =>
    have hgpio : t.gpio = s.gpio := agreeOn_of_perform h hdev
    exact hgpio ▸ .none op
  cases op with
  | rd _ off => obtain ⟨_, _, rfl, -⟩ := readRegister_frame h; exact .none _
  | wr size off v =>
    obtain ⟨rfl, -⟩ := decode_wr_eq_ok.mp hd
    obtain ⟨n, k, hn, rfl, rfl⟩ | ⟨w, hw, rfl, rfl⟩ | ⟨rfl, rfl⟩ | rfl := writeRegister_cases h
    · exact .port n k v hn
    · exact .global w v hw
    · exact .status v
    · exact .none _
  | pin n j l =>
    obtain ⟨⟨hn, hj⟩, -⟩ := decode_pin_eq_ok.mp hd
    simp only [perform, stimulatePin, hn, hj, and_self, if_true] at h
    cases h
    exact .pin n j l hn hj
  | rst => cases h; exact .rst
  | aSel | aDesel | aTx | aRx | aRst | cSel | cDesel | cXfer | cRst => cases hdev

theorem gpioChange_of_step {s t : State} (h : step s = .next t) : ∃ op, GpioChange s.cfg s.gpio op t.gpio := by
  obtain ⟨-, rfl⟩ | ⟨op, rest, i, -, hd, hperform⟩ := step_cases h
  · exact ⟨.rst, .none _⟩
  · exact ⟨op, gpioChange_of_perform (s := { s with pending := rest }) hd hperform⟩

section reset
variable (cfg : Params)

theorem Gpio.inv_reset : Gpio.reset.Inv cfg := by
  refine ⟨fun n _ k => ?_, ?_, fun l _ => ?_⟩
  · rw [Gpio.word_reset]; exact BitVec.zero_and
  · rw [Gpio.word_reset, Gpio.word_reset]; rfl
  · rw [Gpio.status, Gpio.word_reset]; exact BitVec.getLsbD_zero

theorem Gpio.inputsLow_reset : Gpio.reset.InputsLow cfg := fun n _ i _ _ => Gpio.line_reset n i

theorem Gpio.voidsZero_reset : Gpio.reset.VoidsZero cfg :=
  ⟨fun w _ _ => Gpio.word_reset w, fun n i _ => Gpio.line_reset n i⟩

end reset

section invariant
variable {cfg : Params} {g g' : Gpio}

theorem not_lineUnmapped_of_portRaises {n : Nat} {l : Fin 32} (hn : n < cfg.nPorts) (h : g.portRaises cfg n l) :
    ¬ lineUnmapped cfg l := by
  obtain ⟨i, hi, hline, -⟩ := h
  exact fun hu => hu n hn i hi hline

theorem not_lineUnmapped_of_anyRaises {l : Fin 32} (h : g.anyRaises cfg l) : ¬ lineUnmapped cfg l := by
  obtain ⟨n, hn, hraises⟩ := h
  exact not_lineUnmapped_of_portRaises hn hraises

/-- R33: the three invariants are kept where each port word is kept or masked, irq is computed anew, and a status bit
that is set is that of a mapped line or was set before. -/
theorem Gpio.Inv.of_change (h : g.Inv cfg)
    (hword : ∀ n, n < cfg.nPorts → ∀ k : PortReg, g'.word (portIdx n k) = g.word (portIdx n k) ∨
      g'.word (portIdx n k) &&& ~~~portMask k (cfg.pinCount n) = 0)
    (hirq : g'.irq = ((g'.word intCtlIdx &&& g'.word intStaIdx) != 0))
    (hstatus : ∀ l : Fin 32, g'.status l = true → g.status l = true ∨ ¬ lineUnmapped cfg l) : g'.Inv cfg := by
  obtain ⟨hmask, -, hunmapped⟩ := h
  refine ⟨fun n hn k => ?_, hirq, fun l hl => ?_⟩
  · obtain heq | hzero := hword n hn k
    · rw [heq, hmask n hn k]
    · exact hzero
  · refine eq_false_of_ne_true fun hset => ?_
    obtain hold | hmapped := hstatus l hset
    · rw [hunmapped l hl] at hold; cases hold
    · exact hmapped hl

theorem portIdx_inj {m n : Nat} {j k : PortReg} (h : portIdx m j = portIdx n k) : m = n ∧ j = k := by
  have hj := index_lt j
  have hk := index_lt k
  unfold portIdx at h
  obtain rfl : m = n := by omega
  exact ⟨rfl, index_inj (by omega)⟩

theorem portIdx_lt {m : Nat} (h : cfg.Wf) (hm : m < cfg.nPorts) (j : PortReg) : portIdx m j < 128 := by
  have hj := index_lt j
  have hN := h.1.2
  unfold portIdx
  omega

/-- R105, R166: the level of a pin that exists goes inside the mask. -/
theorem putBit_and_not_maskDat {w : Word} {i p : Nat} {b : Bool} (hi : i < p) (hw : w &&& ~~~maskDat p = 0) :
    putBit w i b &&& ~~~maskDat p = 0 := by
  refine and_not_eq_zero_iff.mpr fun l hl => ?_
  rw [getLsbD_putBit] at hl
  split at hl
  · next hli => rw [getLsbD_maskDat l.isLt]; exact decide_eq_true (by omega)
  · exact and_not_eq_zero_iff.mp hw l hl

theorem Gpio.Inv.change (hwf : cfg.Wf) {op : Op} (h : g.Inv cfg) (hc : GpioChange cfg g op g') : g'.Inv cfg := by
  have hsta (m : Nat) (j : PortReg) (hm : m < cfg.nPorts) : portIdx m j ≠ intStaIdx :=
    Nat.ne_of_lt (portIdx_lt_intStaIdx hwf hm j)
  cases hc with
  | none => exact h
  | port n k v hn =>
    obtain ⟨-, -, hirq, -⟩ := Gpio.writePort_spec cfg hwf hn k v g
    refine h.of_change (fun m hm j => ?_) hirq fun l hl =>
      ((Gpio.status_writePort hwf hn k v g l).mp hl).imp_right (not_lineUnmapped_of_portRaises hn)
    rw [Gpio.word_writePort hwf hn k v g (hsta m j hm)]
    split
    · next heq =>
      obtain ⟨rfl, rfl⟩ := portIdx_inj heq
      exact .inr (by rw [BitVec.and_assoc, BitVec.and_not_self]; exact BitVec.and_zero)
    · exact .inl rfl
  | global w v hw =>
    obtain ⟨hlo, -, hne⟩ := globalWords_bounds hw
    obtain ⟨-, -, hirq, -⟩ := Gpio.writeGlobal_spec cfg hwf hne v g
    refine h.of_change (fun m hm j => .inl ?_) hirq fun l hl =>
      ((Gpio.status_writeGlobal hwf v g hw l).mp hl).imp_right not_lineUnmapped_of_anyRaises
    have hport := portIdx_lt hwf hm j
    exact (Gpio.word_writeGlobal hwf v g hw (hsta m j hm)).trans (if_neg (by omega))
  | status v =>
    obtain ⟨hword, -, hirq, hstatus⟩ := Gpio.writeStatus_spec cfg hwf v g
    exact h.of_change (fun m hm j => .inl (hword _ (hsta m j hm))) hirq fun l hl =>
      ((hstatus l).mp hl).imp (fun hold => hold.1) fun hr => not_lineUnmapped_of_anyRaises hr.2
  | pin n i l hn hi =>
    obtain ⟨hword, -, hirq, hstatus⟩ := Gpio.setPin_spec cfg hwf hn i l g
    refine h.of_change (fun m hm j => ?_) hirq fun l hl => ((hstatus l).mp hl).imp_right ?_
    · rw [hword _ (hsta m j hm)]
      split
      · next heq =>
        obtain ⟨rfl, rfl⟩ := portIdx_inj (k := .dat) heq
        exact .inr (putBit_and_not_maskDat hi (h.1 m hm .dat))
      · exact .inl rfl
    · exact fun hraises hu => hu n hn i hi hraises.1
  | rst => exact Gpio.inv_reset cfg

/-- R122: the direction of a pin hangs on the word of its configuration field alone. -/
theorem Gpio.isInput_congr {n i : Nat} (h : g'.word (cfgIdx n (i / 8)) = g.word (cfgIdx n (i / 8))) :
    g'.isInput n i = g.isInput n i := by
  unfold Gpio.isInput Gpio.cfgField
  rw [h]

theorem Gpio.line_congr (h : g'.out = g.out) (n i : Nat) : g'.line n i = g.line n i := by
  unfold Gpio.line
  rw [h]

theorem Gpio.InputsLow.of_same (hwf : cfg.Wf) (h : g.InputsLow cfg)
    (hword : ∀ n, n < cfg.nPorts → ∀ j, j < 4 → g'.word (cfgIdx n j) = g.word (cfgIdx n j)) (hout : g'.out = g.out) :
    g'.InputsLow cfg := by
  intro n hn i hi hin
  have hle := pinCount_le cfg hwf n
  rw [Gpio.isInput_congr (hword n hn (i / 8) (by omega))] at hin
  rw [Gpio.line_congr hout]
  exact h n hn i hi hin

/-- R130: a port write lowers the lines of the port's input pins; no other operation but RST changes a line or a
direction. -/
theorem Gpio.InputsLow.change (hwf : cfg.Wf) {op : Op} (h : g.InputsLow cfg) (hc : GpioChange cfg g op g') :
    g'.InputsLow cfg := by
  have hN := hwf.1.2
  have hsta (m j : Nat) (hm : m < cfg.nPorts) (hj : j < 4) : cfgIdx m j ≠ intStaIdx := by
    unfold cfgIdx intStaIdx
    omega
  cases hc with
  | none => exact h
  | port n k v hn =>
    intro m hm i hi hin
    by_cases hmn : m = n
    · subst hmn
      have hdriven := (Gpio.line_writePort hwf hn k v g m i).trans (if_pos ⟨rfl, hi⟩)
      rw [Gpio.isOutput_of_isInput hin, hin] at hdriven
      exact hdriven
    · have hle := pinCount_le cfg hwf m
      have hk := index_lt k
      have hother : cfgIdx m (i / 8) ≠ portIdx n k := by unfold cfgIdx portIdx; omega
      have hword := (Gpio.word_writePort hwf hn k v g (hsta m (i / 8) hm (by omega))).trans (if_neg hother)
      rw [Gpio.isInput_congr hword] at hin
      exact ((Gpio.line_writePort hwf hn k v g m i).trans (if_neg fun hc => hmn hc.1)).trans (h m hm i hi hin)
  | global w v hw =>
    obtain ⟨hlo, -, hne⟩ := globalWords_bounds hw
    obtain ⟨-, hout, -, -⟩ := Gpio.writeGlobal_spec cfg hwf hne v g
    exact h.of_same hwf (fun m hm j hj =>
      (Gpio.word_writeGlobal hwf v g hw (hsta m j hm hj)).trans (if_neg (by unfold cfgIdx; omega))) hout
  | status v =>
    obtain ⟨hword, hout, -, -⟩ := Gpio.writeStatus_spec cfg hwf v g
    exact h.of_same hwf (fun m hm j hj => hword _ (hsta m j hm hj)) hout
  | pin n i l hn hi =>
    obtain ⟨hword, hout, -, -⟩ := Gpio.setPin_spec cfg hwf hn i l g
    exact h.of_same hwf (fun m hm j hj =>
      (hword _ (hsta m j hm hj)).trans (if_neg (by unfold cfgIdx datIdx; omega))) hout
  | rst => exact Gpio.inputsLow_reset cfg

/-- R20, R30: no operation reaches a word between the ports and the global registers or the line of no pin. -/
theorem Gpio.VoidsZero.change (hwf : cfg.Wf) {op : Op} (h : g.VoidsZero cfg) (hc : GpioChange cfg g op g') :
    g'.VoidsZero cfg := by
  obtain ⟨hwords, hlines⟩ := h
  have hsta (w : Nat) (hw : w < 128) : w ≠ intStaIdx := by unfold intStaIdx; omega
  cases hc with
  | none => exact ⟨hwords, hlines⟩
  | port n k v hn =>
    refine ⟨fun w hlo hhi => ?_, fun m i hvoid => ?_⟩
    · have hk := index_lt k
      have hne : w ≠ portIdx n k := by unfold portIdx; omega
      exact ((Gpio.word_writePort hwf hn k v g (hsta w hhi)).trans (if_neg hne)).trans (hwords w hlo hhi)
    · have hnot : ¬ (m = n ∧ i < cfg.pinCount n) := by rintro ⟨rfl, hi⟩; omega
      exact ((Gpio.line_writePort hwf hn k v g m i).trans (if_neg hnot)).trans (hlines m i hvoid)
  | global w v hw =>
    obtain ⟨hlo, -, hne⟩ := globalWords_bounds hw
    obtain ⟨-, hout, -, -⟩ := Gpio.writeGlobal_spec cfg hwf hne v g
    refine ⟨fun w' hlo' hhi' => ?_, fun m i hvoid => (Gpio.line_congr hout m i).trans (hlines m i hvoid)⟩
    exact ((Gpio.word_writeGlobal hwf v g hw (hsta w' hhi')).trans (if_neg (by omega))).trans (hwords w' hlo' hhi')
  | status v =>
    obtain ⟨hword, hout, -, -⟩ := Gpio.writeStatus_spec cfg hwf v g
    exact ⟨fun w hlo hhi => (hword w (hsta w hhi)).trans (hwords w hlo hhi),
      fun m i hvoid => (Gpio.line_congr hout m i).trans (hlines m i hvoid)⟩
  | pin n i l hn hi =>
    obtain ⟨hword, hout, -, -⟩ := Gpio.setPin_spec cfg hwf hn i l g
    refine ⟨fun w hlo hhi => ?_, fun m i hvoid => (Gpio.line_congr hout m i).trans (hlines m i hvoid)⟩
    have hne : w ≠ datIdx n := by unfold datIdx; omega
    exact ((hword w (hsta w hhi)).trans (if_neg hne)).trans (hwords w hlo hhi)
  | rst => exact Gpio.voidsZero_reset cfg

end invariant

/-- Settles O33: each change of GPIO keeps the invariants (`Gpio.Inv.change`), and no step changes the parameters. -/
theorem stepKeepsGpioInvariant : Obligations.StepKeepsGpioInvariant := by
  intro s t hwf hinv h
  obtain ⟨op, hchange⟩ := gpioChange_of_step h
  rw [parametersNeverChange s t h]
  exact ⟨hwf, hinv.change hwf hchange⟩

/-- Settles O34. -/
theorem stepKeepsInputLinesLow : Obligations.StepKeepsInputLinesLow := by
  intro s t hwf hlow h
  obtain ⟨op, hchange⟩ := gpioChange_of_step h
  rw [parametersNeverChange s t h]
  exact hlow.change hwf hchange

/-- Settles O35. -/
theorem stepKeepsVoidsZero : Obligations.StepKeepsVoidsZero := by
  intro s t hwf hzero h
  obtain ⟨op, hchange⟩ := gpioChange_of_step h
  rw [parametersNeverChange s t h]
  exact hzero.change hwf hchange

/-- Settles O29. -/
theorem gpioResetZeroesEverything : Obligations.GpioResetZeroesEverything := fun _ =>
  ⟨_, rfl, Gpio.word_reset, Gpio.line_reset, rfl, rfl⟩

/-- Settles O30: directions, data bits and trigger modes are fields of words that are 0. -/
theorem gpioStartsZeroed : Obligations.GpioStartsZeroed := by
  have hword : ∀ w, State.reset.gpio.word w = 0 := Gpio.word_reset
  refine ⟨hword, Gpio.line_reset, rfl, fun n i => ⟨?_, ?_⟩, fun l => ?_⟩
  · simp [Gpio.isInput, Gpio.cfgField, hword]
  · simp [Gpio.dat, hword]
  · simp [Gpio.mode, hword]

/-- R9, R11: the reference parameters are in range. -/
theorem params_ref_wf : Params.ref.Wf := by decide

/-- Settles O32: the block starts with the GPIO that RST leaves. -/
theorem resetMeetsGpioInvariants : Obligations.ResetMeetsGpioInvariants :=
  ⟨params_ref_wf, Gpio.inv_reset _, Gpio.inputsLow_reset _, Gpio.voidsZero_reset _⟩

/-- R140, R154: no change of GPIO but RST and the write of INT_STA clears a status bit. -/
theorem status_of_gpioChange {cfg : Params} (hwf : cfg.Wf) {g g' : Gpio} {op : Op} (hc : GpioChange cfg g op g')
    (hrst : op ≠ .rst) (hsta : ∀ v, op ≠ .wr 4 0x214 v) {l : Fin 32} (hl : g.status l = true) : g'.status l = true := by
  cases hc with
  | none => exact hl
  | port n k v hn => exact (Gpio.status_writePort hwf hn k v g l).mpr (.inl hl)
  | global w v hw => exact (Gpio.status_writeGlobal hwf v g hw l).mpr (.inl hl)
  | status v => exact absurd rfl (hsta v)
  | pin n i b hn hi =>
    obtain ⟨-, -, -, hstatus⟩ := Gpio.setPin_spec cfg hwf hn i b g
    exact (hstatus l).mpr (.inl hl)
  | rst => exact absurd rfl hrst

/-- Settles O20: the change keeps each status bit, and without W1C_REEVAL the write of INT_STA is its clearing alone.
-/
theorem statusBitsAreSticky : Obligations.StatusBitsAreSticky := by
  intro s t op rest hwf hp h
  obtain ⟨i, hd, hperform⟩ := step_next_of_pending hp h
  refine ⟨fun hrst hsta => ?_, ?_⟩
  · have hchange := gpioChange_of_perform (s := { s with pending := rest }) hd hperform
    exact and_not_eq_zero_iff.mpr fun l hl => status_of_gpioChange hwf hchange hrst hsta hl
  · rintro v rfl hr
    have hwrite := (writeRegister_status (s := { s with pending := rest }) hwf v).symm.trans hperform
    cases hwrite
    exact Gpio.word_writeStatus_of_no_reeval hwf v s.gpio hr

/-- R138, R153: a bit that an evaluation with the stored levels raises is that of a level-mode line. -/
theorem level_mode_of_portRaises {cfg : Params} {g : Gpio} {n : Nat} {l : Fin 32} (h : g.portRaises cfg n l) :
    g.mode l = 2 ∨ g.mode l = 3 := by
  obtain ⟨i, -, -, -, hfire⟩ := h
  exact level_mode_of_fire hfire

theorem level_mode_of_anyRaises {cfg : Params} {g : Gpio} {l : Fin 32} (h : g.anyRaises cfg l) :
    g.mode l = 2 ∨ g.mode l = 3 := by
  obtain ⟨n, -, hraises⟩ := h
  exact level_mode_of_portRaises hraises

/-- Settles O21: each kind of write sets a bit only by evaluations with the stored levels. -/
theorem writeFiresLevelModesOnly : Obligations.WriteFiresLevelModesOnly := by
  intro s t off v rest l hwf hp h hclear hset
  obtain ⟨i, hd, hperform⟩ := step_next_of_pending hp h
  have hchange := gpioChange_of_perform (s := { s with pending := rest }) hd hperform
  have hnew : ¬ s.gpio.status l = true := by rw [hclear]; nofun
  generalize t.gpio = g' at hset hchange ⊢
  cases hchange with
  | none => exact absurd hset hnew
  | port n k _ hn =>
    exact level_mode_of_portRaises (((Gpio.status_writePort hwf hn k v _ l).mp hset).resolve_left hnew)
  | global w _ hw => exact level_mode_of_anyRaises (((Gpio.status_writeGlobal hwf v _ hw l).mp hset).resolve_left hnew)
  | status =>
    obtain ⟨hword, -, -, hstatus⟩ := Gpio.writeStatus_spec s.cfg hwf v s.gpio
    obtain ⟨hold, -⟩ | ⟨-, hraises⟩ := (hstatus l).mp hset
    · exact absurd hold hnew
    · have hmode := (Gpio.sameButStatus_of_words hword).mode l
      exact hmode ▸ level_mode_of_anyRaises hraises

end Sys2Proof.Machine
end

section
/-! The pin stimulus (43_gpio_controller.md R166, R167), the writes that touch no level and no direction
(42_gpio_irq_engine.md R155), and the words that the trigger engine does not read (R142; 10_state.md R29). -/

namespace Sys2Proof.Machine

/-- R166: the row of a stimulus on a pin of the block. -/
theorem exec_pin {s : State} {n i : Nat} (l : Bool) (hn : n < s.cfg.nPorts) (hi : i < s.cfg.pinCount n) :
    exec (.pin n i l) s = .next ((s.setGpio (s.gpio.setPin s.cfg n i l)).answer .nothing []) := by
  rw [exec_eq_perform]
  exact if_pos ⟨hn, hi⟩

section setPin
variable {cfg : Params} (h : cfg.Wf) {n i : Nat} (hn : n < cfg.nPorts) (hi : i < cfg.pinCount n) (l : Bool) (g : Gpio)
include h hn

/-- R166: a stimulus leaves every direction as it was. -/
theorem Gpio.cfgField_setPin (m : Nat) {j : Nat} (hj : j < 32) :
    (g.setPin cfg n i l).cfgField m j = g.cfgField m j := by
  obtain ⟨hword, -⟩ := Gpio.setPin_spec cfg h hn i l g
  have hsta : cfgIdx m (j / 8) ≠ intStaIdx := by unfold cfgIdx intStaIdx; omega
  have hdat : cfgIdx m (j / 8) ≠ datIdx n := by unfold cfgIdx datIdx; omega
  unfold Gpio.cfgField
  rw [hword _ hsta, if_neg hdat]

include hi

/-- R166: a stimulus stores the level in the pin's bit of DAT and in no other. -/
theorem Gpio.dat_setPin (j : Nat) : (g.setPin cfg n i l).dat n j = if j = i then l else g.dat n j := by
  obtain ⟨hword, -⟩ := Gpio.setPin_spec cfg h hn i l g
  have hne : datIdx n ≠ intStaIdx := by unfold datIdx intStaIdx; omega
  have hpin : i < 32 := lt_of_lt_of_le hi (pinCount_le cfg h n)
  unfold Gpio.dat
  rw [hword _ hne, if_pos rfl, getLsbD_putBit]
  simp only [hpin, and_true]

end setPin

/-- Settles O25. -/
theorem pinStimulusEffect : Obligations.PinStimulusEffect := by
  intro s n i l hwf
  refine ⟨fun hn hi => ?_, fun hout => (exec_eq_perform _ s).trans (if_neg hout)⟩
  obtain ⟨hword, hout, hirq, hstatus⟩ := Gpio.setPin_spec s.cfg hwf hn i l s.gpio
  exact ⟨_, exec_pin l hn hi, Gpio.dat_setPin hwf hn hi l s.gpio, fun w hdat hsta => (hword w hsta).trans (if_neg hdat),
    hstatus, hirq, hout, rfl⟩

section drivePull
variable {cfg : Params} (h : cfg.Wf) {n : Nat} (hn : n < cfg.nPorts) {k : PortReg} (hk : 5 ≤ k.index) (v : Word)
  (g : Gpio)
include h hn hk

/-- R74: a write of DRV or PUL leaves the words of CFG and DAT, and those of INT_CFG, as they were. -/
theorem Gpio.word_writePort_drivePull {w : Nat} (hw : (∃ m j, w = 9 * m + j ∧ j < 5) ∨ 128 ≤ w)
    (hsta : w ≠ intStaIdx) : (g.writePort cfg n k (portIdx n k) v).word w = g.word w := by
  have hlt := portIdx_lt h hn k
  have hk9 := index_lt k
  refine (Gpio.word_writePort h hn k v g hsta).trans (if_neg ?_)
  obtain ⟨m, j, rfl, hj⟩ | hge := hw
  · unfold portIdx; omega
  · omega

theorem Gpio.cfgField_writePort_drivePull {i : Nat} (hi : i < 32) :
    (g.writePort cfg n k (portIdx n k) v).cfgField n i = g.cfgField n i := by
  have hN := h.1.2
  unfold Gpio.cfgField
  rw [Gpio.word_writePort_drivePull h hn hk v g (w := cfgIdx n (i / 8)) (.inl ⟨n, i / 8, rfl, by omega⟩)
    (by unfold cfgIdx intStaIdx; omega)]

theorem Gpio.dat_writePort_drivePull (i : Nat) :
    (g.writePort cfg n k (portIdx n k) v).dat n i = g.dat n i := by
  have hN := h.1.2
  unfold Gpio.dat
  rw [Gpio.word_writePort_drivePull h hn hk v g (w := datIdx n) (.inl ⟨n, 4, rfl, by omega⟩)
    (by unfold datIdx intStaIdx; omega)]

theorem Gpio.mode_writePort_drivePull (l : Fin 32) :
    (g.writePort cfg n k (portIdx n k) v).mode l = g.mode l := by
  unfold Gpio.mode
  rw [Gpio.word_writePort_drivePull h hn hk v g (.inr (by unfold intCfgIdx; omega))
    (by unfold intCfgIdx intStaIdx; omega)]

end drivePull

theorem index_of_drivePull {k : PortReg} (h : k ∈ [PortReg.drv0, PortReg.drv1, PortReg.pul0, PortReg.pul1]) :
    5 ≤ k.index := by
  revert k
  decide

/-- Settles O22: the write leaves level, direction and mode, so its evaluation of the port raises the bit. -/
theorem highLevelFiresAgainOnPortWrite : Obligations.HighLevelFiresAgainOnPortWrite := by
  intro s n k v row i l hwf hn hk hrow hi hline hin hmode hdat
  have hk5 := index_of_drivePull hk
  have hi32 : i < 32 := lt_of_lt_of_le hi (pinCount_le s.cfg hwf n)
  refine ⟨_, exec_of_writesPort hn hrow, (Gpio.status_writePort hwf hn k v s.gpio l).mpr (.inr ⟨i, hi, hline, ?_, ?_⟩)⟩
  · rw [Gpio.isInput, Gpio.cfgField_writePort_drivePull hwf hn hk5 v s.gpio hi32]
    exact hin
  · rw [Gpio.mode_writePort_drivePull hwf hn hk5, Gpio.dat_writePort_drivePull hwf hn hk5, hmode, hdat]
    rfl

/-- Settles O26: an output pin raises nothing, and the port write drives its line to the data bit that the stimulus
left. -/
theorem stimulatedOutputLineIsStale : Obligations.StimulatedOutputLineIsStale := by
  intro s n k v row i l hwf hn hi houtput hk hrow
  have hk5 := index_of_drivePull hk
  have hi32 : i < 32 := lt_of_lt_of_le hi (pinCount_le s.cfg hwf n)
  obtain ⟨-, hout, -, hstatus⟩ := Gpio.setPin_spec s.cfg hwf hn i l s.gpio
  let t := (s.setGpio (s.gpio.setPin s.cfg n i l)).answer .nothing []
  have hlevel : t.gpio.dat n i = l := (Gpio.dat_setPin hwf hn hi l s.gpio i).trans (if_pos rfl)
  have houtputT : t.gpio.isOutput n i = true := by
    have hfield : t.gpio.cfgField n i = s.gpio.cfgField n i := Gpio.cfgField_setPin hwf hn l s.gpio n hi32
    rw [Gpio.isOutput, hfield]
    exact houtput
  have houtputU : (t.gpio.writePort s.cfg n k (portIdx n k) v).isOutput n i = true := by
    rw [Gpio.isOutput, Gpio.cfgField_writePort_drivePull hwf hn hk5 v t.gpio hi32]
    exact houtputT
  have hquiet (m : Fin 32) : ¬ s.gpio.pinRaises s.cfg n i m (s.gpio.dat n i) l := by
    rintro ⟨-, hin, -⟩
    rw [Gpio.isInput_of_isOutput houtput] at hin
    cases hin
  refine ⟨t, _, exec_pin l hn hi, hlevel, ?_, Gpio.line_congr hout n i, exec_of_writesPort (s := t) hn hrow, ?_⟩
  · exact word_ext_of_bits fun m => (hstatus m).trans (or_iff_left (hquiet m))
  · refine ((Gpio.line_writePort hwf hn k v t.gpio n i).trans (if_pos ⟨rfl, hi⟩)).trans ((if_pos houtputU).trans ?_)
    exact (Gpio.dat_writePort_drivePull hwf hn hk5 v t.gpio i).trans hlevel

/-- Two GPIOs that differ at most in one word and in irq. -/
def Gpio.AgreeBut (w₀ : Nat) (g h : Gpio) : Prop :=
  (∀ w, w ≠ w₀ → h.word w = g.word w) ∧ ∀ n i, h.line n i = g.line n i

theorem Gpio.agreeBut_setWord (w₀ : Nat) (v : Word) (g : Gpio) : g.AgreeBut w₀ (g.setWord w₀ v) :=
  ⟨fun w hw => by rw [Gpio.word_setWord, if_neg fun hc => hw hc.1], fun _ _ => rfl⟩

theorem Gpio.AgreeBut.setWord {w₀ : Nat} {g h : Gpio} (a : g.AgreeBut w₀ h) (w : Nat) (v : Word) :
    (g.setWord w v).AgreeBut w₀ (h.setWord w v) := by
  obtain ⟨hword, hline⟩ := a
  exact ⟨fun w' hw' => by simp only [Gpio.word_setWord, hword w' hw'], hline⟩

section agree
variable {w₀ : Nat} (hw₀ : 132 ≤ w₀) {g h : Gpio} (a : g.AgreeBut w₀ h)
include hw₀ a

/-- R136: the trigger modes stand below INT_CTL. -/
theorem Gpio.AgreeBut.mode (l : Fin 32) : h.mode l = g.mode l := by
  obtain ⟨hword, -⟩ := a
  unfold Gpio.mode
  rw [hword _ (by unfold intCfgIdx; omega)]

variable {cfg : Params} (hwf : cfg.Wf) {n : Nat} (hn : n < cfg.nPorts)
include hwf hn

/-- R21: so do the words of every port. -/
theorem Gpio.AgreeBut.dat (i : Nat) : h.dat n i = g.dat n i := by
  obtain ⟨hword, -⟩ := a
  have hN := hwf.1.2
  unfold Gpio.dat
  rw [hword _ (by unfold datIdx; omega)]

theorem Gpio.AgreeBut.cfgField {i : Nat} (hi : i < 32) : h.cfgField n i = g.cfgField n i := by
  obtain ⟨hword, -⟩ := a
  have hN := hwf.1.2
  unfold Gpio.cfgField
  rw [hword _ (by unfold cfgIdx; omega)]

theorem Gpio.AgreeBut.pinRaises {i : Nat} (hi : i < 32) (l : Fin 32) (prior new : Bool) :
    h.pinRaises cfg n i l prior new ↔ g.pinRaises cfg n i l prior new := by
  unfold Gpio.pinRaises Gpio.isInput
  rw [a.mode hw₀, a.cfgField hw₀ hwf hn hi]

theorem Gpio.AgreeBut.portRaises (l : Fin 32) : h.portRaises cfg n l ↔ g.portRaises cfg n l := by
  have hle := pinCount_le cfg hwf n
  refine exists_congr fun i => and_congr_right fun hi => ?_
  rw [a.dat hw₀ hwf hn, a.pinRaises hw₀ hwf hn (by omega)]

theorem Gpio.AgreeBut.drivenLine {i : Nat} (hi : i < 32) : h.drivenLine n i = g.drivenLine n i := by
  unfold Gpio.drivenLine Gpio.isOutput Gpio.isInput
  rw [a.cfgField hw₀ hwf hn hi, a.dat hw₀ hwf hn, a.2]

/-- R142, R29: a stimulus reads no word from INT_CTL on but INT_STA. -/
theorem Gpio.AgreeBut.setPin {i : Nat} (hi : i < cfg.pinCount n) (l : Bool) :
    (g.setPin cfg n i l).AgreeBut w₀ (h.setPin cfg n i l) := by
  have hi32 : i < 32 := lt_of_lt_of_le hi (pinCount_le cfg hwf n)
  have hN := hwf.1.2
  obtain ⟨hword, hout, -, hstatus⟩ := Gpio.setPin_spec cfg hwf hn i l g
  obtain ⟨hword', hout', -, hstatus'⟩ := Gpio.setPin_spec cfg hwf hn i l h
  have hdat : datIdx n ≠ w₀ := by unfold datIdx; omega
  refine ⟨fun w hw => ?_, fun m j => ?_⟩
  · by_cases hws : w = intStaIdx
    · subst hws
      refine word_ext_of_bits fun m => ?_
      have hold : h.status m = g.status m := by rw [Gpio.status, a.1 _ hw]
      have hraises := a.pinRaises hw₀ hwf hn hi32 m (g.dat n i) l
      rw [hstatus' m, hstatus m, hold, a.dat hw₀ hwf hn, hraises]
    · rw [hword' w hws, hword w hws, a.1 _ hdat, a.1 w hw]
  · rw [Gpio.line_congr hout', Gpio.line_congr hout, a.2]

/-- R29: nor does a port write. -/
theorem Gpio.AgreeBut.writePort (k : PortReg) (v : Word) :
    (g.writePort cfg n k (portIdx n k) v).AgreeBut w₀ (h.writePort cfg n k (portIdx n k) v) := by
  obtain ⟨-, hline, -, hstatus⟩ := Gpio.writePort_spec cfg hwf hn k v g
  obtain ⟨-, hline', -, hstatus'⟩ := Gpio.writePort_spec cfg hwf hn k v h
  have hstored := a.setWord (portIdx n k) (v &&& portMask k (cfg.pinCount n))
  have hle := pinCount_le cfg hwf n
  refine ⟨fun w hw => ?_, fun m j => ?_⟩
  · by_cases hws : w = intStaIdx
    · subst hws
      refine word_ext_of_bits fun l => ?_
      have hold : h.status l = g.status l := by rw [Gpio.status, a.1 _ hw]
      exact (hstatus' l).trans (Iff.trans (by rw [hold, hstored.portRaises hw₀ hwf hn]) (hstatus l).symm)
    · rw [Gpio.word_writePort hwf hn k v h hws, Gpio.word_writePort hwf hn k v g hws, a.1 w hw]
  · rw [hline' m j, hline m j, a.2]
    exact if_ctx_congr Iff.rfl (fun hj => hstored.drivenLine hw₀ hwf hn (by omega)) fun _ => rfl

end agree

/-- R143: irq is computed from INT_CTL and INT_STA alone. -/
theorem Gpio.AgreeBut.irq {g h : Gpio} (a : g.AgreeBut intDebIdx h)
    (hg : g.irq = ((g.word intCtlIdx &&& g.word intStaIdx) != 0))
    (hh : h.irq = ((h.word intCtlIdx &&& h.word intStaIdx) != 0)) : h.irq = g.irq := by
  rw [hh, hg, a.1 _ (by decide), a.1 _ (by decide)]

/-- Settles O27: the two stimuli start from GPIOs that differ in INT_CTL alone. -/
theorem enableMaskDoesNotGateStatus : Obligations.EnableMaskDoesNotGateStatus := by
  intro s c n i l hwf hn hi
  let s' := s.setGpio (s.gpio.setWord 132 c)
  obtain ⟨hword, -⟩ := Gpio.setPin_spec s.cfg hwf hn i l s'.gpio
  have hagree := (Gpio.agreeBut_setWord 132 c s.gpio).setPin (by decide) hwf hn hi l
  have hN := hwf.1.2
  refine ⟨_, _, exec_pin l hn hi, exec_pin (s := s') l hn hi, hagree.1 133 (by decide), ?_⟩
  refine (hword 132 (by decide)).trans ((if_neg (by unfold datIdx; omega)).trans ?_)
  exact (Gpio.word_setWord _ _ _ _).trans (if_pos (by decide))

/-- Settles O28: the two operations start from GPIOs that differ in INT_DEB alone, and irq is computed from other
words. -/
theorem debounceValueHasNoFunction : Obligations.DebounceValueHasNoFunction := by
  intro s d i hwf hi
  let s' := s.setGpio (s.gpio.setWord 134 d)
  have hstart := Gpio.agreeBut_setWord 134 d s.gpio
  obtain ⟨n, j, l, rfl, hn, hj⟩ | ⟨n, k, v, hrow, hn⟩ := hi
  · have hagree := hstart.setPin (by decide) hwf hn hj l
    obtain ⟨-, -, hirq, -⟩ := Gpio.setPin_spec s.cfg hwf hn j l s.gpio
    obtain ⟨-, -, hirq', -⟩ := Gpio.setPin_spec s.cfg hwf hn j l s'.gpio
    exact ⟨_, _, exec_pin l hn hj, exec_pin (s := s') l hn hj, hagree.1, hagree.2, hagree.irq hirq hirq'⟩
  · have hagree := hstart.writePort (by decide) hwf hn k v
    obtain ⟨-, -, hirq, -⟩ := Gpio.writePort_spec s.cfg hwf hn k v s.gpio
    obtain ⟨-, -, hirq', -⟩ := Gpio.writePort_spec s.cfg hwf hn k v s'.gpio
    exact ⟨_, _, exec_of_writesPort hn hrow, exec_of_writesPort (s := s') hn hrow, hagree.1, hagree.2,
      hagree.irq hirq hirq'⟩

end Sys2Proof.Machine
end
